-- ==== Sys2Proof/Word.lean ====
section
/-! DEFINITION. The word type of the frames and stored tables: one byte. Every other quantity of the part is an
integer in a unit of spec/00_scope.md and is held as Nat or Int. -/

namespace Sys2Proof

/-- One byte of a frame or of a stored table (R194). -/
abbrev Byte := BitVec 8

end Sys2Proof
end

