-- ==== Sys2Proof/Config.lean ====
section
/-! DEFINITION. What the part fixes: the sizes of its tables and queues, the bounds and defaults of its voyage
settings, and the saturation bounds of the hull arithmetic; and the three values that the spec leaves open, as constants
without a body (log entries 17 and 43). Every choice that it leaves to the world is an operand of a command (log
entry 5). -/

namespace Sys2Proof.Config

/-- Channels 0 to 95 (R1). -/
def channels : Nat := 96
/-- Tanks 0 to 63 (R17). -/
def tanks : Nat := 64
/-- Holds 0 to 11 (R37). -/
def holds : Nat := 12
/-- Pumps 0 to 3 (R85). -/
def pumps : Nat := 4
/-- Field-line addresses 1 to 30 (R160). -/
def nodes : Nat := 30
/-- Influence items 0 to 75; item 64 + h is hold h (R53, R37). -/
def items : Nat := 76
/-- Stations 0 to 23 (R52). -/
def stations : Nat := 24
/-- Table codes 0 to 9 (R188). -/
def tableCodes : Nat := 10
/-- Steps of a plan (R104). -/
def planSteps : Nat := 32
/-- Tank entries of a step (R104). -/
def stepEntries : Nat := 4

/-- Largest cargo mass of a hold, dt (R37). -/
def maxHoldMass : Nat := 1000000
/-- Largest quantity of a POUR frame, dt (R41). -/
def maxPour : Nat := 50000
/-- Largest distance behind that is a duplicate (R42). -/
def duplicateWindow : Nat := 31

/-- Entries of the Report Queue (R144). -/
def reportQueue : Nat := 24
/-- Entries of the Fault List (R180). -/
def faultList : Nat := 32
/-- Places of the reply queue (R173). -/
def replyPlaces : Nat := 8
/-- Frames of the sample relay FIFO (R175). -/
def relayFifo : Nat := 128
/-- Entries of the actuator command queue (R168). -/
def commandQueue : Nat := 32
/-- FORWARD entries of the actuator command queue (R169). -/
def forwardEntries : Nat := 8
/-- Commands of one command slot (R168). -/
def slotCommands : Nat := 4
/-- Entries of the pump request queue (R87). -/
def requestQueue : Nat := 16
/-- Substitutions of a PROJECT order (R61). -/
def substitutions : Nat := 8
/-- Report windows (R152). -/
def reportWindows : Nat := 8

/-- Bound of SF and BM (R67, R68). -/
def maxStress : Int := 8388607
/-- Bound of the displacement, dt (R71). -/
def maxDisplacement : Int := 30000000
/-- Bound of the trim, mm (R73). -/
def maxTrim : Int := 20000
/-- Cap of a per mille (R70, R148). -/
def maxPerMille : Nat := 9999

/-- Missed slots that make a node SILENT, and closes that make a line break (R166, R167). -/
def silentMisses : Nat := 3
/-- Unanswered ASSIGN frames that end addressing (R162). -/
def unansweredLimit : Nat := 3
/-- Cycle closes between safe sweeps in SETUP (R190). -/
def setupSweepCloses : Nat := 50
/-- Bytes of one part of a TABLE-READ reply (R194, R196; log entry 19). -/
def readPart : Nat := 240

/-- Default confirm period of a plan (R104). -/
def defaultPeriod : Nat := 150
/-- Default open share of a plan, per cent (R104). -/
def defaultShare : Nat := 50
/-- Default density, kg/m³ (R19). -/
def defaultDensity : Nat := 1025

/-! ## Free values -/

/-- The tag that a REPLY carries when the body it answers is too short to hold one (R172; log entry 17). -/
opaque missingTag : Byte
/-- The order code that a REPLY carries when the ORDER it answers is too short to hold one (R172; log entry 17). -/
opaque missingCode : Byte
/-- The bytes on CON_TX of a SAMPLE frame whose body is longer than the 250 bytes of R171 (log entry 43). -/
opaque longSample : List Byte → List Byte

/-- Items of a SAMPLE frame whose body of 3 + 8n bytes fits in a console frame (R171, R194). -/
def sampleItems : Nat := 30

end Sys2Proof.Config
end

