-- ==== Sys2Proof/Syntax.lean ====
section
/-! DEFINITION. The commands of the part, whole: one constructor of Instr for each row of spec/opcode_table.json,
with the operands the row carries. Operands are what arrives from outside: the arguments of an order, the bytes of a
field-line frame, and, where the spec leaves an outcome to the world, that outcome (log entry 5). -/

namespace Sys2Proof

/-- The arguments of an order or frame as the Console Port finds them: laid out as R194 asks, or not (R172). -/
inductive Body (α : Type) where
  | fields (args : α)
  | badLayout
deriving DecidableEq, Repr

/-- One part of a TABLE-LOAD (R191); `check` is read at a last part alone. -/
structure TablePart where
  code : Nat
  part : Nat
  last : Bool
  bytes : List Byte
  check : Nat
deriving DecidableEq, Repr

/-- Table code and part index of a TABLE-READ (R192). -/
structure TableReadArgs where
  code : Nat
  part : Nat
deriving DecidableEq, Repr

/-- A voyage setting held per tank (density) or per hold (allowance): its number and the value given (R176). -/
structure IndexedValue where
  index : Nat
  value : Int
deriving DecidableEq, Repr

/-- The two bounds of the trim window, given as one pair (R57). -/
structure TrimPair where
  min : Int
  max : Int
deriving DecidableEq, Repr

/-- A report window: first station and count (R152). -/
structure Window where
  first : Nat
  count : Nat
deriving DecidableEq, Repr

/-- HOLD-SET: a hold and its mass (R45). -/
structure HoldSetArgs where
  hold : Nat
  mass : Nat
deriving DecidableEq, Repr

/-- A substitution of a projection: an influence item and the mass it takes (R60, R61). -/
structure Substitution where
  item : Nat
  mass : Nat
deriving DecidableEq, Repr

/-- A hold gate: a hold and the cargo that must stand in it (R104). -/
structure HoldGate where
  hold : Nat
  minMass : Nat
deriving DecidableEq, Repr

/-- A tank entry as a PLAN-LOAD part carries it, its action still a code (R108). -/
structure RawEntry where
  tank : Nat
  action : Nat
  target : Nat
deriving DecidableEq, Repr

/-- A step as a PLAN-LOAD part carries it, its margin still a code (R108). -/
structure RawStep where
  margin : Nat
  gate : Option HoldGate
  entries : List RawEntry
deriving DecidableEq, Repr

/-- One part of a PLAN-LOAD (R107); the header fields are read at a first part alone. -/
structure PlanPart where
  ctx : Nat
  first : Bool
  last : Bool
  period : Option Nat
  share : Option Nat
  steps : List RawStep
deriving DecidableEq, Repr

/-- SKIP-STEP: a context code and a step index (R123). -/
structure SkipArgs where
  ctx : Nat
  step : Nat
deriving DecidableEq, Repr

/-- FAULT-CLEAR: a fault code and a subject (R184). -/
structure FaultArgs where
  code : Nat
  subject : Nat
deriving DecidableEq, Repr

/-- The fields of a POUR frame (section 3.3, R194). -/
structure PourFrame where
  hold : Nat
  run : Nat
  seq : Nat
  quantity : Nat
  final : Bool
deriving DecidableEq, Repr

/-- A FORWARD frame: the node and the maintenance bytes for it (R169, R194). -/
structure ForwardArgs where
  node : Nat
  bytes : List Byte
deriving DecidableEq, Repr

/-- Why an inbound console frame is discarded (R171). -/
inductive DiscardCause where
  | badCheck
  | unknownKind
  | overLength
deriving DecidableEq, Repr

/-- The blocks that take the result of a CURRENT evaluation: the five of R80, and the Start and Supply Unit (R189). -/
inductive HandOn where
  | contents
  | cargo
  | plan
  | report
  | fault
  | start
deriving DecidableEq, Repr

/-- The blocks that work at a cycle close (R158). -/
inductive CloseWork where
  | line
  | channels
  | pumps
  | plan
  | hull
  | reports
  | faults
  | start
deriving DecidableEq, Repr

/-- What a usable answer frame reaches (R165): the Line Controller's own counts, the Channel Unit, the Pump Unit. -/
inductive FrameWork where
  | line
  | channels
  | pumps
deriving DecidableEq, Repr

/-- The commands: one constructor for each row of spec/opcode_table.json. -/
inductive Instr where
  -- setup orders and the table store (R190 to R193)
  | setup (tag : Nat) (body : Body Unit)
  | setupEnd (tag : Nat) (body : Body Unit)
  | setupEndWriteCompletion
  | tableLoad (tag : Nat) (body : Body TablePart)
  | tableReadStore (tag : Nat) (body : Body TableReadArgs)
  | tableReadWorking (tag : Nat) (body : Body TableReadArgs)
  -- voyage settings (R176)
  | voyageSetStaleLimit (tag : Nat) (body : Body Int)
  | voyageSetDensity (tag : Nat) (body : Body IndexedValue)
  | voyageSetAllowance (tag : Nat) (body : Body IndexedValue)
  | voyageSetLimitSet (tag : Nat) (body : Body Int)
  | voyageSetWarnPerMille (tag : Nat) (body : Body Int)
  | voyageSetMaximumDraught (tag : Nat) (body : Body Int)
  | voyageSetDraughtMargin (tag : Nat) (body : Body Int)
  | voyageSetTrimWindow (tag : Nat) (body : Body TrimPair)
  | voyageSetDraughtMismatchTolerance (tag : Nat) (body : Body Int)
  | voyageSetValveTravelTimeout (tag : Nat) (body : Body Int)
  | voyageSetPumpStartTimeout (tag : Nat) (body : Body Int)
  | voyageSetFlowWindow (tag : Nat) (body : Body Int)
  | voyageSetMinimumFlow (tag : Nat) (body : Body Int)
  | voyageSetReportWindows (tag : Nat) (body : Body (List Window))
  | voyageSetConditionPeriod (tag : Nat) (body : Body Int)
  | voyageSetProgressPeriod (tag : Nat) (body : Body Int)
  | voyageSetLinePeriod (tag : Nat) (body : Body Int)
  | voyageSetRelay (tag : Nat) (body : Body Int)
  | voyageSetUnknownSetting (tag : Nat) (setting : Nat)
  -- cargo, projection and plan orders
  | holdSet (tag : Nat) (body : Body HoldSetArgs)
  | project (tag : Nat) (body : Body (List Substitution))
  | planLoad (tag : Nat) (body : Body PlanPart)
  | planStart (tag : Nat) (body : Body Nat)
  | planPause (tag : Nat) (body : Body Nat)
  | resume (tag : Nat) (body : Body Nat)
  | skipStep (tag : Nat) (body : Body SkipArgs)
  | planAbort (tag : Nat) (body : Body Nat)
  | confirm (tag : Nat) (body : Body Unit)
  | exchange (tag : Nat) (body : Body Unit)
  | autoExchangeOn (tag : Nat) (body : Body Unit)
  -- the argument byte: 0 is OFF, a value other than 0 and 1 is neither ON nor OFF (R137)
  | autoExchangeOff (tag : Nat) (body : Body Nat)
  | faultClear (tag : Nat) (body : Body FaultArgs)
  | status (tag : Nat) (body : Body Unit)
  | reset (tag : Nat) (body : Body Unit)
  -- the order code; badly laid out when the ORDER is too short to hold one (R172; log entry 17)
  | unknownOrder (tag : Nat) (code : Body Nat)
  -- other console frames (R171, R172)
  | pour (body : Body PourFrame)
  | forward (tag : Nat) (body : Body ForwardArgs)
  | inboundFrameDiscard (cause : DiscardCause)
  -- the field line (R158 to R168); frames as the bytes that arrive
  | lineCycleMark
  | commandSlot
  | assigned (frame : List Byte)
  | answerFrame (slot : Nat) (frame : List Byte) (order : List FrameWork)
  | frameOutsideSlot (frame : List Byte)
  | conversionEnd (tank : Nat)
  | cycleClose (order : List CloseWork)
  -- steps of a cycle close that the table lists on their own (log entry 6)
  | channelStale (channel : Nat)
  | nodeSilent (address : Nat)
  | lineBreak
  | enumerationAddressingStop
  | setupSafeSweep
  | valveTravelTimeout (pump : Nat)
  | pumpStartTimeout (pump : Nat)
  | flowWindowEnd (pump : Nat)
  | confirmLate
  | conditionPeriod
  | progressPeriod
  -- the evaluation engine (R62, R80 to R82)
  | evaluationBegin
  | currentCompletion (order : List HandOn)
  | stepCompletion
  | orderCompletion
  -- the transmitter (R174, R146)
  | transmitterFree
  | transmissionComplete
  -- supply and resets (R186); `progress` is how many bytes of a write in flight had been written (R193)
  | orderedReset
  | supplyLowBegin
  | supplyLowEnd
  | supplyReset (progress : Nat)
  | retentionLoss
  | powerOnReset (progress : Nat)
  | resetEnd (belowLow : Bool)
  -- per table code, how many reads of the table disagreed with the store (R188)
  | selfCheckEnd (misreads : List Nat)
  | startByte
deriving DecidableEq, Repr

end Sys2Proof
end

