-- ==== Sys2Proof/Machine/State.lean ====
section
/-! DEFINITION. The state of the part as plain data, block by block (spec/00_scope.md, Block overview), and its value
right after a POWER-ON reset has ended. Each record cites the rule that lists its fields; each `.reset` value is the one
that the rule gives for reset. -/

namespace Sys2Proof.Machine

open Sys2Proof

/-! ## Names of states and classes (spec/00_scope.md, Classes) -/

/-- Plan contexts (R105). -/
inductive Ctx where
  | a
  | b
deriving DecidableEq, Repr

/-- Sample classes (R6). -/
inductive SampleClass where
  | normal
  | over
  | under
  | fault
deriving DecidableEq, Repr

/-- Channel validity (R4). -/
inductive Validity where
  | fresh
  | held
  | lost
deriving DecidableEq, Repr

/-- Tank classes (R21, R30). -/
inductive TankClass where
  | good
  | degraded
  | indefinite
deriving DecidableEq, Repr

/-- Condition classes, in their order (R76). -/
inductive CondClass where
  | clear
  | warning
  | indefinite
  | over
deriving DecidableEq, Repr

/-- The role of a tank's channel, and a tank's source (R1, R21). -/
inductive Role where
  | primary
  | secondary
deriving DecidableEq, Repr

/-- The draught marks (R14). -/
inductive Mark where
  | fore
  | aft
  | midPort
  | midStbd
deriving DecidableEq, Repr

/-- What a channel is bound to (R1). -/
inductive Binding where
  | tank (tank : Nat) (role : Role)
  | mark (mark : Mark)
deriving DecidableEq, Repr

/-- The two limit sets (R54). -/
inductive LimitSet where
  | harbour
  | sea
deriving DecidableEq, Repr

/-- A step's tank action (R104). -/
inductive TankAction where
  | discharge
  | fill
deriving DecidableEq, Repr

/-- A step's margin (R104). -/
inductive Margin where
  | clear
  | warning
deriving DecidableEq, Repr

/-- Node kinds (R160, R161). -/
inductive NodeKind where
  | gauge
  | draught
  | actuator
deriving DecidableEq, Repr

/-- Feedback of a suction valve (R84). -/
inductive ValveFeedback where
  | opened
  | closed
  | moving
  | fault
deriving DecidableEq, Repr

/-- Feedback of a pump's starter (R84). -/
inductive StarterFeedback where
  | running
  | stopped
  | fault
deriving DecidableEq, Repr

/-- Commands to an actuator output (R84, R168). -/
inductive ActCommand where
  | openValve
  | closeValve
  | start
  | stop
deriving DecidableEq, Repr

/-- Outcomes of a REPLY (section 10.6). -/
inductive ReplyCode where
  | accepted
  | clamped
  | busy
  | notInState
  | outOfRange
  | badTable
  | badPlan
  | owned
  | queueFull
  | unknown
deriving DecidableEq, Repr

/-- Fault codes (R180). -/
inductive FaultCode where
  | tableInvalid
  | supplyLow
  | lineBreak
  | lineMapMismatch
  | pumpFailed
  | valveFault
  | nodeSilent
  | channelLost
  | gaugeDisagree
  | pourGap
  | draughtMismatch
deriving DecidableEq, Repr

/-! ## The fixed tables (R188, R196) -/

/-- An entry of the Channel Table (R1); node 0 is an unused entry. -/
structure ChannelEntry where
  node : Nat
  index : Nat
  binding : Option Binding
  lo : Nat
  hi : Nat
  offset : Int
  scale : Nat
deriving DecidableEq, Repr

/-- A sounding point (R17). -/
structure SoundingPoint where
  sounding : Nat
  volume : Nat
deriving DecidableEq, Repr

/-- An actuator output: node address and output index (R17, R83). -/
structure OutputRef where
  node : Nat
  output : Nat
deriving DecidableEq, Repr

/-- The fixed part of a Tank Table entry (R17); no primary channel is an unused entry. -/
structure TankFix where
  primary : Option Nat
  secondary : Option Nat
  trimCoef : Int
  tolerance : Nat
  reach : List Nat
  valve : OutputRef
  lever : Int
  points : List SoundingPoint
deriving DecidableEq, Repr

/-- A named entry of the Line Map (R161). -/
structure LineMapEntry where
  kind : NodeKind
  count : Nat
deriving DecidableEq, Repr

/-- The base record (R52). -/
structure BaseRecord where
  nsta : Nat
  delta0 : Int
  tm0 : Int
  sf0 : List Int
  bm0 : List Int
deriving DecidableEq, Repr

/-- The two coefficients of an item at a station (R53). -/
structure Coef where
  fS : Int
  fM : Int
deriving DecidableEq, Repr

/-- The four limits of a station in one set (R54). -/
structure StationLimits where
  sfPos : Nat
  sfNeg : Nat
  bmPos : Nat
  bmNeg : Nat
deriving DecidableEq, Repr

/-- The limit sets (R54). -/
structure LimitSets where
  harbour : List StationLimits
  sea : List StationLimits
deriving DecidableEq, Repr

/-- A point of the hydrostatic table (R55). -/
structure HydroPoint where
  delta : Int
  mean : Int
  lcb : Int
  mtc : Int
deriving DecidableEq, Repr

/-- The ten fixed tables as graded at the end of the last SELF-CHECK: the content of a valid table, none for an
INVALID one (R56, R188). -/
structure Tables where
  identity : Option (List Byte)
  lineMap : Option (List (Option LineMapEntry))
  channel : Option (List ChannelEntry)
  tank : Option (List TankFix)
  lever : Option (List Int)
  base : Option BaseRecord
  influence : Option (List (List Coef))
  limits : Option LimitSets
  hydro : Option (List HydroPoint)
  actuator : Option (List OutputRef)
deriving DecidableEq, Repr

/-- Every table INVALID: before any SELF-CHECK (DESIGN CHOICE, log entry 4). -/
def Tables.none : Tables :=
  ⟨Option.none, Option.none, Option.none, Option.none, Option.none, Option.none, Option.none, Option.none,
    Option.none, Option.none⟩

/-- The table store: an image per table code and two directory copies, as bytes (R188, R196). -/
structure Store where
  images : Vector (List Byte) 10
  dirA : List Byte
  dirB : List Byte
deriving DecidableEq, Repr

/-- A store never written (DESIGN CHOICE, log entry 3). -/
def Store.blank : Store := ⟨Vector.replicate 10 [], [], []⟩

/-- A table's bytes under its code, as a SETUP-END write carries them (R193). -/
structure TableImage where
  code : Nat
  bytes : List Byte
deriving DecidableEq, Repr

/-! ## Voyage settings -/

/-- The settings of the evaluation (R57). -/
structure EvalSettings where
  limitSet : LimitSet
  warn : Nat
  maxDraught : Int
  margin : Int
  trimMin : Int
  trimMax : Int
  mismatchTol : Int
deriving DecidableEq, Repr

/-- The voyage settings that every reset sets to their defaults (R12, R57, R101, R152, R156, R159, R175).
`windows` is none for the default of one window over the whole station list (R152). -/
structure Settings where
  staleLimit : Nat
  eval : EvalSettings
  valveTimeout : Nat
  pumpTimeout : Nat
  flowWindow : Nat
  minFlow : Nat
  windows : Option (List Window)
  conditionPeriod : Nat
  progressPeriod : Nat
  linePeriod : Nat
  relay : Bool
deriving DecidableEq, Repr

/-- The defaults of R57. -/
def EvalSettings.reset : EvalSettings := ⟨.harbour, 900, 30000, 300, 0, 4000, 150⟩

/-- The defaults of every reset kind. -/
def Settings.reset : Settings where
  staleLimit := 5
  eval := EvalSettings.reset
  valveTimeout := 30
  pumpTimeout := 15
  flowWindow := 20
  minFlow := 50
  windows := none
  conditionPeriod := 5
  progressPeriod := 25
  linePeriod := 200
  relay := true

/-! ## Channel Unit (R4, R14) -/

/-- The dynamic record of a channel (R4). -/
structure ChannelRec where
  validity : Validity
  age : Nat
  everValid : Bool
  lastGood : Option Nat
  lastClass : Option SampleClass
  usable : Bool
  lossRaised : Bool
deriving DecidableEq, Repr

/-- The record at every reset (R4). -/
def ChannelRec.reset : ChannelRec := ⟨.lost, 0, false, none, none, false, false⟩

/-- The measured draught set (R14). -/
structure DraughtSet where
  fore : Option Nat
  aft : Option Nat
  midPort : Option Nat
  midStbd : Option Nat
deriving DecidableEq, Repr

/-- The Channel Unit's state. -/
structure ChannelState where
  recs : Vector ChannelRec 96
  draughts : DraughtSet
deriving DecidableEq, Repr

/-- Every channel LOST, every mark absent (R4, R14). -/
def ChannelState.reset : ChannelState := ⟨Vector.replicate 96 ChannelRec.reset, ⟨none, none, none, none⟩⟩

/-! ## Contents Unit (R19, R21, R22, R27) -/

/-- A view: the last that the Channel Unit handed on for a role (R21, R28). -/
structure View where
  validity : Validity
  sounding : Option Nat
  cls : Option SampleClass
deriving DecidableEq, Repr

/-- Whether a conversion is of a sample or of a sounding already held (R27). -/
inductive ConvKind where
  | sample
  | reconvert
deriving DecidableEq, Repr

/-- A conversion asked for: its kind, the role it converts and the channel sounding (R27). -/
structure ConvRequest where
  kind : ConvKind
  role : Role
  sounding : Nat
deriving DecidableEq, Repr

/-- A conversion in flight, with the trim and density it read at its beginning (R19, R22). -/
structure Conversion where
  request : ConvRequest
  trim : Int
  density : Nat
deriving DecidableEq, Repr

/-- Service action and target, present together (R21). -/
structure Service where
  action : TankAction
  target : Nat
deriving DecidableEq, Repr

/-- The dynamic part of a tank (R21), its mis-bound mark (R36), its conversion in flight, the conversions waiting
behind it (R27), and a density that waits for the conversion in flight (R19). -/
structure TankRec where
  volume : Nat
  mass : Nat
  cls : TankClass
  source : Role
  disagreement : Bool
  rate : Option Int
  rateBasis : Option Role
  viewP : View
  viewS : View
  serving : Option Nat
  valve : Option ValveFeedback
  service : Option Service
  misBound : Bool
  conv : Option Conversion
  waiting : List ConvRequest
  newDensity : Option Nat
deriving DecidableEq, Repr

/-- The dynamic part at every reset (R21). -/
def TankRec.reset : TankRec where
  volume := 0
  mass := 0
  cls := .indefinite
  source := .primary
  disagreement := false
  rate := none
  rateBasis := none
  viewP := ⟨.lost, none, none⟩
  viewS := ⟨.lost, none, none⟩
  serving := none
  valve := none
  service := none
  misBound := false
  conv := none
  waiting := []
  newDensity := none

/-- The Contents Unit's state: the dynamic parts, the densities (R19) and the conversion trim (R22). -/
structure TankState where
  recs : Vector TankRec 64
  density : Vector Nat 64
  convTrim : Int
deriving DecidableEq, Repr

/-- The Contents Unit after a POWER-ON reset (R19, R21, R22). -/
def TankState.reset : TankState := ⟨Vector.replicate 64 TankRec.reset, Vector.replicate 64 1025, 0⟩

/-! ## Cargo Unit (R37, R50) -/

/-- The state of a hold (R37). -/
inductive HoldPhase where
  | empty
  | pouring
  | finished
deriving DecidableEq, Repr

/-- A record of the Hold Table (R37); `stopRequested` is a loader request of STOP. -/
structure HoldRec where
  mass : Nat
  allowance : Nat
  phase : HoldPhase
  lastRun : Option Nat
  lastSeq : Nat
  unsure : Bool
  stopRequested : Bool
deriving DecidableEq, Repr

/-- The record after a POWER-ON reset (R39). -/
def HoldRec.reset : HoldRec := ⟨0, 1000000, .empty, none, 0, false, false⟩

/-- The Cargo Unit's state; `takeUp` is set while the first CURRENT completion of a start has still to take up the
STOP requests of the retained records (R50). -/
structure HoldState where
  recs : Vector HoldRec 12
  takeUp : Bool
deriving DecidableEq, Repr

/-- The Hold Table after a POWER-ON reset (R39). -/
def HoldState.reset : HoldState := ⟨Vector.replicate 12 HoldRec.reset, false⟩

/-! ## Hull Evaluator (section 4.3, R65, R79, R81) -/

/-- A held STEP request (R60). -/
structure StepReq where
  ctx : Ctx
  step : Nat
  subs : List Substitution
deriving DecidableEq, Repr

/-- A held ORDER request (R61). -/
structure OrderReq where
  tag : Nat
  subs : List Substitution
deriving DecidableEq, Repr

/-- An influence item in a snapshot (R65). -/
structure ItemSnap where
  mass : Nat
  cls : TankClass
  lever : Int
  unsure : Bool
deriving DecidableEq, Repr

/-- Measured draughts with their mean (R15). -/
structure Measured where
  fore : Option Nat
  aft : Option Nat
  midPort : Option Nat
  midStbd : Option Nat
  mean : Option Nat
deriving DecidableEq, Repr

/-- The snapshot of an evaluation (R65); `tablesValid` says that all four hull tables were valid. -/
structure Snapshot where
  items : List ItemSnap
  settings : EvalSettings
  tablesValid : Bool
  cycle : Nat
  measured : Measured
deriving DecidableEq, Repr

/-- The kinds of evaluation, a projection with the request it was taken from (section 4.3). -/
inductive EvalKind where
  | current
  | step (req : StepReq)
  | order (req : OrderReq)
deriving DecidableEq, Repr

/-- The evaluation in flight; `afterSweep` says that it began after the full sweep of ANNOUNCE (R189). -/
structure Running where
  kind : EvalKind
  number : Nat
  snap : Snapshot
  afterSweep : Bool
deriving DecidableEq, Repr

/-- One entry of a record's station list (R79). -/
structure StationRes where
  sf : Int
  sfSat : Bool
  sfPm : Nat
  sfCls : CondClass
  bm : Int
  bmSat : Bool
  bmPm : Nat
  bmCls : CondClass
deriving DecidableEq, Repr

/-- The fields that the Condition Record and the Projection Records share (R79, R81). -/
structure EvalResult where
  number : Nat
  cycle : Nat
  limitSet : LimitSet
  delta : Int
  mean : Int
  fore : Int
  aft : Int
  trim : Int
  stations : List StationRes
  draughtCls : CondClass
  trimCls : CondClass
  overall : CondClass
  degraded : Bool
  firstIndef : Option Nat
deriving DecidableEq, Repr

/-- The Condition Record (R79); `maxDraught` is the snapshot's, for the ALERT of R148. -/
structure CondRecord where
  res : EvalResult
  measured : Measured
  mismatch : Bool
  maxDraught : Int
deriving DecidableEq, Repr

/-- The STEP Projection Record (R81). -/
structure StepRecord where
  res : EvalResult
  ctx : Ctx
  step : Nat
deriving DecidableEq, Repr

/-- The ORDER Projection Record (R81). -/
structure OrderRecord where
  res : EvalResult
  tag : Nat
deriving DecidableEq, Repr

/-- The Hull Evaluator's state; a record "none yet" is none (R79, R81). -/
structure HullState where
  counter : Nat
  currentFlag : Bool
  stepFlag : Option StepReq
  orderFlag : Option OrderReq
  engine : Option Running
  condition : Option CondRecord
  stepRec : Option StepRecord
  orderRec : Option OrderRecord
deriving DecidableEq, Repr

/-- The engine free, flags clear, records "none yet" (R64, R79, R81). -/
def HullState.reset : HullState := ⟨0, false, none, none, none, none, none, none⟩

/-! ## Pump Unit (R85, R87, R89, R100) -/

/-- The states of a pump (R85). -/
inductive PumpStage where
  | idle
  | opening
  | starting
  | running
  | stopping
  | closing
  | failed
deriving DecidableEq, Repr

/-- A pump record (R85); `ctx` and `step` are its context and step, `starter` its starter's last feedback (R84). -/
structure PumpRec where
  stage : PumpStage
  tank : Option Nat
  job : Option (Ctx × Nat)
  counter : Nat
  placed : Bool
  trouble : Bool
  clean : Bool
  startMass : Nat
  starter : Option StarterFeedback
deriving DecidableEq, Repr

/-- A pump record at every reset (R85). -/
def PumpRec.reset : PumpRec := ⟨.idle, none, none, 0, false, false, false, 0, none⟩

/-- An entry of the pump request queue (R87). -/
structure ReqEntry where
  tank : Nat
  ctx : Ctx
  step : Nat
deriving DecidableEq, Repr

/-- A posting not yet reported placed; `watch` is the pump whose present state's command it is (R89). -/
structure Posting where
  watch : Option Nat
deriving DecidableEq, Repr

/-- The Pump Unit's state. -/
structure PumpState where
  recs : Vector PumpRec 4
  queue : List ReqEntry
  postings : List Posting
  supplyLow : Bool
deriving DecidableEq, Repr

/-- The Pump Unit at every reset (R85, R87, R89, R100). -/
def PumpState.reset : PumpState := ⟨Vector.replicate 4 PumpRec.reset, [], [], false⟩

/-! ## Plan Unit (R104, R105, R132) -/

/-- A tank entry of a held plan (R104). -/
structure PlanEntry where
  tank : Nat
  action : TankAction
  target : Nat
deriving DecidableEq, Repr

/-- A step of a held plan (R104). -/
structure PlanStep where
  entries : List PlanEntry
  gate : Option HoldGate
  margin : Margin
deriving DecidableEq, Repr

/-- A held plan (R104). -/
structure Plan where
  period : Nat
  share : Nat
  steps : List PlanStep
deriving DecidableEq, Repr

/-- A plan being assembled (R107), its steps as they arrived. -/
structure WorkPlan where
  period : Nat
  share : Nat
  steps : List RawStep
deriving DecidableEq, Repr

/-- Why a step is HELD (R117). -/
inductive HoldReason where
  | condition
  | pause
  | valve
  | noFlow
  | confirmEarly
  | confirmLate
  | exchange
  | restart
deriving DecidableEq, Repr

/-- Step states; HELD carries its reason (R105). -/
inductive StepState where
  | waiting
  | gated
  | running
  | held (why : HoldReason)
  | done
  | skipped
deriving DecidableEq, Repr

/-- A step's progress: its state and a done mark per tank entry (R105). -/
structure StepRec where
  state : StepState
  done : List Bool
deriving DecidableEq, Repr

/-- Context states (R110). -/
inductive CtxState where
  | empty
  | loaded
  | active
  | paused
  | complete
  | aborted
  | suspended
deriving DecidableEq, Repr

/-- A context record (R105). -/
structure CtxRec where
  state : CtxState
  plan : Option Plan
  index : Nat
  steps : List StepRec
  asked : Bool
  confirmCount : Nat
  resumable : Bool
deriving DecidableEq, Repr

/-- An EMPTY context (R127). -/
def CtxRec.reset : CtxRec := ⟨.empty, none, 0, [], false, 0, false⟩

/-- How an exchange began (R132). -/
inductive ExchangeCause where
  | order
  | auto
deriving DecidableEq, Repr

/-- The exchange record while an exchange is in flight (R132). -/
structure ExchangeRec where
  outgoing : Ctx
  outState : CtxState
  served : List Nat
  clean : Bool
  cause : ExchangeCause
deriving DecidableEq, Repr

/-- The Plan Unit's state; no exchange record is no exchange in flight. -/
structure PlanState where
  ctxA : CtxRec
  ctxB : CtxRec
  designated : Ctx
  workA : Option WorkPlan
  workB : Option WorkPlan
  recheckOwed : Bool
  autoPending : Bool
  autoEffective : Bool
  exchange : Option ExchangeRec
deriving DecidableEq, Repr

/-- The Plan Unit after a POWER-ON reset (R127, R129, R141). -/
def PlanState.reset : PlanState := ⟨CtxRec.reset, CtxRec.reset, .a, none, none, false, false, false, none⟩

/-! ## Report Unit (R143, R144) -/

/-- What a LOADER report carries (section 3.6). -/
structure LoaderReport where
  hold : Nat
  stop : Bool
  mass : Nat
  allowance : Nat
  overall : CondClass
  cycle : Nat
deriving DecidableEq, Repr

/-- What an ALERT carries (R148, R149). -/
structure AlertReport where
  subject : Nat
  old : CondClass
  new : CondClass
  peak : CondClass
  number : Nat
  first : Option Int
  second : Option Int
  firstPm : Option Nat
  secondPm : Option Nat
deriving DecidableEq, Repr

/-- What a FAULT report carries (R150). -/
structure FaultReport where
  code : FaultCode
  subject : Nat
  firstCycle : Nat
  active : Bool
  cycle : Nat
deriving DecidableEq, Repr

/-- What an IDENT carries besides its remaining count (R189); a check value per table code, absent when INVALID. -/
structure IdentReport where
  supplySeen : Bool
  orderedSeen : Bool
  identity : Option (List Byte)
  checks : List (Option Nat)
  cycle : Nat
deriving DecidableEq, Repr

/-- What a READY report carries besides its remaining count (R189). -/
structure ReadyReport where
  res : EvalResult
  cycle : Nat
deriving DecidableEq, Repr

/-- A window's maxima: the highest per mille with its station, for SF and for BM (R152). -/
structure WindowMaxima where
  sf : Option (Nat × Nat)
  bm : Option (Nat × Nat)
deriving DecidableEq, Repr

/-- What a CONDITION report carries (R151). -/
structure ConditionReport where
  present : Bool
  res : EvalResult
  measured : Measured
  mismatch : Bool
  windows : List WindowMaxima
deriving DecidableEq, Repr

/-- A tank entry of a PROGRESS report (R154). -/
structure ProgressEntry where
  tank : Nat
  action : TankAction
  target : Nat
  mass : Nat
  cls : TankClass
  rate : Option Int
  done : Bool
  serving : Option Nat
deriving DecidableEq, Repr

/-- The plan part of a PROGRESS report, absent for an EMPTY context (R154). -/
structure ProgressPlan where
  stepCount : Nat
  index : Nat
  step : StepState
deriving DecidableEq, Repr

/-- The exchange part of a PROGRESS report (R154). -/
structure ProgressExchange where
  cause : ExchangeCause
  served : Nat
deriving DecidableEq, Repr

/-- What a PROGRESS report carries (R154). -/
structure ProgressReport where
  ctx : Ctx
  state : CtxState
  designated : Bool
  resumable : Bool
  plan : Option ProgressPlan
  entries : List ProgressEntry
  remaining : Nat
  final : Bool
  exchange : Option ProgressExchange
  cycle : Nat
deriving DecidableEq, Repr

/-- The reports (R143). -/
inductive Report where
  | loader (r : LoaderReport)
  | alert (r : AlertReport)
  | fault (r : FaultReport)
  | ident (r : IdentReport)
  | ready (r : ReadyReport)
  | condition (r : ConditionReport)
  | progress (r : ProgressReport)
deriving DecidableEq, Repr

/-- Kind and subject of a report (R143). -/
inductive ReportKey where
  | loader (hold : Nat)
  | alert (subject : Nat)
  | fault (code : FaultCode) (subject : Nat)
  | ident
  | ready
  | condition
  | progress (ctx : Ctx)
deriving DecidableEq, Repr

/-- An entry of the Report Queue (R144); its place is its position in the list, oldest first. -/
structure ReportEntry where
  report : Report
  eligible : Bool
  remaining : Nat
deriving DecidableEq, Repr

/-- The Report Unit's state. -/
structure ReportState where
  queue : List ReportEntry
  conditionCount : Nat
  progressCount : Nat
deriving DecidableEq, Repr

/-- The Report Unit at every reset (R144, R153, R155). -/
def ReportState.reset : ReportState := ⟨[], 0, 0⟩

/-! ## Line Controller (R158 to R168) -/

/-- Node states (R160). -/
inductive NodeState where
  | absent
  | active
  | silent
  | foreign
deriving DecidableEq, Repr

/-- An entry of the Node Table (R160). -/
structure NodeRec where
  state : NodeState
  kind : Option NodeKind
  count : Option Nat
  missed : Nat
deriving DecidableEq, Repr

/-- A Node Table entry at every reset (R160). -/
def NodeRec.reset : NodeRec := ⟨.absent, none, none, 0⟩

/-- How far a line cycle has come (R158). -/
inductive CyclePart where
  | beforeMark
  | afterMark
  | afterSlot
deriving DecidableEq, Repr

/-- The course of an enumeration (R162, R164). -/
inductive EnumState where
  | notRunning
  | unassignDue
  | giving (address : Nat) (unanswered : Nat)
  | sweeping
  | ended
deriving DecidableEq, Repr

/-- A command of the safe sweep list (R164). -/
structure SweepCommand where
  out : OutputRef
  command : ActCommand
deriving DecidableEq, Repr

/-- An entry of the actuator command queue, by its origin (R168). -/
inductive QueueEntry where
  | pump (out : OutputRef) (command : ActCommand)
  | forward (node : Nat) (bytes : List Byte)
deriving DecidableEq, Repr

/-- The ASSIGN of this cycle (R162): none placed, placed and its slot still open, answered by a frame that counts, or
its slot spent on a frame that does not. -/
inductive AssignSlot where
  | none
  | placed
  | answered
  | failed
deriving DecidableEq, Repr

/-- The Line Controller's state; `slots` are the addresses that have an answer slot in this cycle, `slotAt` the last
slot in which a frame arrived, `heard` the slots that brought a usable frame, `driven` the frames last put on the
line. -/
structure LineState where
  cycle : Nat
  lastClosed : Nat
  part : CyclePart
  period : Nat
  nodes : Vector NodeRec 30
  slots : List Nat
  slotAt : Nat
  heard : List Nat
  enumeration : EnumState
  assign : AssignSlot
  sweep : List SweepCommand
  queue : List QueueEntry
  breakCount : Nat
  driven : List (List Byte)
deriving DecidableEq, Repr

/-- The Line Controller at every reset (R159, R160, R164, R167, R168). -/
def LineState.reset : LineState where
  cycle := 0
  lastClosed := 0
  part := .beforeMark
  period := 200
  nodes := Vector.replicate 30 NodeRec.reset
  slots := []
  slotAt := 0
  heard := []
  enumeration := .notRunning
  assign := .none
  sweep := []
  queue := []
  breakCount := 0
  driven := []

/-! ## Console Port (R171, R173, R175, R178) -/

/-- An item of a SAMPLE frame (R10). -/
structure SampleItem where
  raw : Nat
  cls : Option SampleClass
  sounding : Option Nat
  binding : Option Binding
deriving DecidableEq, Repr

/-- A SAMPLE frame (R10). -/
structure SampleFrame where
  node : Nat
  cycle : Nat
  items : List SampleItem
deriving DecidableEq, Repr

/-- What STATUS reports (R177). -/
structure StatusBody where
  phase : Nat
  setup : Bool
  writing : Bool
  cycle : Nat
  period : Nat
  overall : CondClass
  summary : Bool
  listFull : Bool
  designated : Ctx
  stateA : CtxState
  stateB : CtxState
  inFlight : Option Ctx
  autoPending : Bool
  autoEffective : Bool
  supplySeen : Bool
  orderedSeen : Bool
  reports : Nat
  places : Nat
  samples : Nat
  discardedFrames : Nat
  discardedOrders : Nat
  droppedSamples : Nat
deriving DecidableEq, Repr

/-- The own body of a REPLY (section 12.3). -/
inductive ReplyBody where
  | none
  | project (res : EvalResult)
  | badPlan (step : Option Nat) (entry : Option Nat)
  | confirm (early : Bool) (count : Nat)
  | forward (queued : Nat)
  | tableRead (bytes : List Byte) (check : Option Nat)
  | status (body : StatusBody)
deriving DecidableEq, Repr

/-- The state of a reply place (R173). WAITING is split by what it waits for: the PROJECT order that the ORDER flag
holds, or the projection in flight. -/
inductive PlaceState where
  | onFlag
  | onEngine
  | ready (code : ReplyCode) (body : ReplyBody)
deriving DecidableEq, Repr

/-- A place of the reply queue (R173). -/
structure Place where
  tag : Nat
  order : Nat
  state : PlaceState
deriving DecidableEq, Repr

/-- The frames the transmitter sends (R174). -/
inductive TxFrame where
  | reply (tag : Nat) (order : Nat) (code : ReplyCode) (body : ReplyBody)
  | report (r : Report) (remaining : Nat)
  | sample (f : SampleFrame)
  | idle (cycle : Nat) (overall : CondClass) (summary : Bool)
deriving DecidableEq, Repr

/-- The frame under transmission, with its bytes on CON_TX. -/
structure Sending where
  frame : TxFrame
  bytes : List Byte
deriving DecidableEq, Repr

/-- The Console Port's state; `collecting` is the receiver's state, `resetDue` is set once the REPLY to RESET has been
sent (R178). -/
structure ConsoleState where
  collecting : Bool
  places : List Place
  tx : Option Sending
  relay : List SampleFrame
  droppedSamples : Nat
  discardedFrames : Nat
  discardedOrders : Nat
  resetPending : Bool
  resetDue : Bool
deriving DecidableEq, Repr

/-- The Console Port at every reset (R171, R173, R175, R177, R178). -/
def ConsoleState.reset : ConsoleState := ⟨false, [], none, [], 0, 0, 0, false, false⟩

/-! ## Fault Unit (R180, R185) -/

/-- An entry of the Fault List (R180). -/
structure FaultEntry where
  code : FaultCode
  subject : Nat
  firstCycle : Nat
  active : Bool
  reported : Bool
  owed : Bool
deriving DecidableEq, Repr

/-- The Fault Unit's state: the list in the order its entries joined, the list-full flag, and the SUMMARY pin. -/
structure FaultState where
  list : List FaultEntry
  listFull : Bool
  summary : Bool
deriving DecidableEq, Repr

/-- The Fault Unit at every reset (R180, R185). -/
def FaultState.reset : FaultState := ⟨[], false, false⟩

/-! ## Start and Supply Unit (R186 to R193) -/

/-- Start phases (R188, R189). -/
inductive StartPhase where
  | selfCheck
  | enumerate
  | announce
  | ready
  | run
deriving DecidableEq, Repr

/-- The kind of a reset in progress (R186). -/
inductive ResetKind where
  | powerOn
  | supply
deriving DecidableEq, Repr

/-- The full sweep of ANNOUNCE (R189). -/
inductive SweepMark where
  | awaitingMark
  | marked
  | complete
deriving DecidableEq, Repr

/-- The part of a TABLE-LOAD last taken (R191). -/
structure PartTaken where
  code : Nat
  part : Nat
deriving DecidableEq, Repr

/-- The Start and Supply Unit's state. -/
structure StartState where
  phase : StartPhase
  setup : Bool
  setupCloses : Nat
  write : Option (List TableImage)
  restart : Bool
  inReset : Option ResetKind
  vsupLow : Bool
  supplySeen : Bool
  orderedSeen : Bool
  sweep : SweepMark
  openTable : Option TableImage
  lastPart : Option PartTaken
  completed : Vector (Option (List Byte)) 10
deriving DecidableEq, Repr

/-- The Start and Supply Unit right after a POWER-ON reset has ended with VSUP not below the low level (R187, R188). -/
def StartState.reset : StartState where
  phase := .selfCheck
  setup := false
  setupCloses := 0
  write := none
  restart := false
  inReset := none
  vsupLow := false
  supplySeen := false
  orderedSeen := false
  sweep := .awaitingMark
  openTable := none
  lastPart := none
  completed := Vector.replicate 10 none

/-! ## The model's own field: steps of a cycle close taken ahead of it (log entry 6) -/

/-- The steps of a cycle close that may be taken on their own. -/
inductive CloseStep where
  | channel (channel : Nat)
  | node (address : Nat)
  | lineBreak
  | assign
  | setupSweep
  | pump (pump : Nat)
  | confirm
  | condition
  | progress
deriving DecidableEq, Repr

/-- The steps of the present cycle close that have been taken ahead of CYCLE_CLOSE. -/
structure CloseState where
  begun : Bool
  taken : List CloseStep
deriving DecidableEq, Repr

/-! ## The whole state -/

/-- The state of the part, with the queue of commands that wait. -/
structure State where
  settings : Settings
  tables : Tables
  store : Store
  chan : ChannelState
  tank : TankState
  hold : HoldState
  hull : HullState
  pump : PumpState
  plan : PlanState
  report : ReportState
  line : LineState
  console : ConsoleState
  fault : FaultState
  start : StartState
  close : CloseState
  pending : List Instr
deriving DecidableEq, Repr

/-- The part right after a POWER-ON reset has ended, VSUP not below the low level (log entry 2), with nothing pending. -/
def State.reset : State where
  settings := Settings.reset
  tables := Tables.none
  store := Store.blank
  chan := ChannelState.reset
  tank := TankState.reset
  hold := HoldState.reset
  hull := HullState.reset
  pump := PumpState.reset
  plan := PlanState.reset
  report := ReportState.reset
  line := LineState.reset
  console := ConsoleState.reset
  fault := FaultState.reset
  start := StartState.reset
  close := ⟨false, []⟩
  pending := []

/-- Why a step can stop with a fault. It has no constructor: the spec gives every command an effect, or none, in every
state, and names nothing that stops the part. -/
inductive Fault where
deriving DecidableEq, Repr

/-- Why a step can be refused. -/
inductive Refusal where
  /-- Raised by exec's arm of a command that has no meaning yet, and by nothing else. Safe: no run goes on from it. -/
  | notModelled (mnemonic : String)
deriving DecidableEq, Repr

end Sys2Proof.Machine
end

