-- ==== Sys2Proof/Machine/Arith.lean ====
section
/-! DEFINITION. The rounding words and clamps of spec/00_scope.md, the two check computations of R195, the byte order of
R194, and small list helpers. -/

namespace Sys2Proof.Machine

open Sys2Proof

/-- "truncated": toward zero. -/
def truncDiv (a b : Int) : Int := a.tdiv b

/-- "rounded": to nearest, a half away from zero (`b` positive). -/
def roundDiv (a b : Int) : Int :=
  if 0 ≤ a then (2 * a + b) / (2 * b) else -((2 * (-a) + b) / (2 * b))

/-- "rounded up at half", of a non-negative quotient (`b` positive). -/
def roundHalfUp (a b : Nat) : Nat := (2 * a + b) / (2 * b)

/-- "clamped" to a range. -/
def clampInt (lo hi v : Int) : Int := if v < lo then lo else if hi < v then hi else v

/-- A count that stays at its largest value once reached. -/
def bump (top n : Nat) : Nat := if n < top then n + 1 else n

/-- One shift of a check register (R195). -/
def crcShift {w : Nat} (poly r : BitVec w) : BitVec w := if r.msb then (r <<< 1) ^^^ poly else r <<< 1

/-- One byte into a check register (R195). -/
def crcByte {w : Nat} (poly r : BitVec w) (b : Byte) : BitVec w :=
  let start := r ^^^ (b.setWidth w <<< (w - 8))
  (List.range 8).foldl (fun acc _ => crcShift poly acc) start

/-- The CRC-8 of the field line (R195). -/
def crc8 (bytes : List Byte) : BitVec 8 := bytes.foldl (crcByte 0x07#8) 0#8

/-- The CRC-16 of the console link and the stored tables (R195). -/
def crc16 (bytes : List Byte) : BitVec 16 := bytes.foldl (crcByte 0x1021#16) 0xFFFF#16

/-- A number in `k` bytes, most significant first (R194). -/
def be : Nat → Nat → List Byte
  | 0, _ => []
  | k + 1, v => BitVec.ofNat 8 (v / 256 ^ k) :: be k v

/-- A signed number in `k` bytes, two's complement (R194). -/
def beInt (k : Nat) (v : Int) : List Byte := be k (v % (256 ^ k : Nat)).toNat

/-- The number that bytes spell, most significant first (R194). -/
def readBe (bytes : List Byte) : Nat := bytes.foldl (fun acc b => acc * 256 + b.toNat) 0

/-- The signed number that bytes spell, two's complement (R194). -/
def readInt (bytes : List Byte) : Int :=
  let n := readBe bytes
  if 2 * n < 256 ^ bytes.length then (n : Int) else (n : Int) - (256 ^ bytes.length : Nat)

/-- The field of `len` bytes at offset `off`. -/
def field (bytes : List Byte) (off len : Nat) : List Byte := (bytes.drop off).take len

/-- The unsigned field at an offset. -/
def fieldNat (bytes : List Byte) (off len : Nat) : Nat := readBe (field bytes off len)

/-- The signed field at an offset. -/
def fieldInt (bytes : List Byte) (off len : Nat) : Int := readInt (field bytes off len)

/-- No two elements are equal. -/
def allDistinct {α : Type} [BEq α] : List α → Bool
  | [] => true
  | x :: xs => !xs.contains x && allDistinct xs

/-- Replace the first element that meets `p`. -/
def replaceFirst {α : Type} (p : α → Bool) (f : α → α) : List α → List α
  | [] => []
  | x :: xs => if p x then f x :: xs else x :: replaceFirst p f xs

/-- Remove the first element that meets `p`. -/
def removeFirst {α : Type} (p : α → Bool) : List α → List α
  | [] => []
  | x :: xs => if p x then xs else x :: removeFirst p xs

/-- Keep the first of equal elements. -/
def keepFirst {α : Type} [BEq α] : List α → List α → List α
  | seen, [] => seen.reverse
  | seen, x :: xs => if seen.contains x then keepFirst seen xs else keepFirst (x :: seen) xs

/-- The world's order completed: the elements given, each once, then those not given, in the order of `all`
(log entry 5). Every element of `all` stands in it exactly once. -/
def completeOrder {α : Type} [BEq α] (all given : List α) : List α :=
  keepFirst [] (given.filter all.contains ++ all)

end Sys2Proof.Machine
end

