-- ==== Sys2Proof/Machine/Flags.lean ====
section
/-! DEFINITION. The classes and flags of the spec as functions of the values they are graded from: sample class (R6),
channel validity (R11), tank class (R30), condition classes and their order (R69 to R76), fault priorities (R180),
report priority classes (R143). -/

namespace Sys2Proof.Machine

open Sys2Proof

/-- Place of a condition class in CLEAR < WARNING < INDEFINITE < OVER (R76); also its code (R194). -/
def CondClass.rank : CondClass → Nat
  | .clear => 0
  | .warning => 1
  | .indefinite => 2
  | .over => 3

/-- The higher of two condition classes (R76). -/
def CondClass.higher (a b : CondClass) : CondClass := if a.rank < b.rank then b else a

/-- The highest of a list of condition classes, CLEAR for none (R76). -/
def highestClass (l : List CondClass) : CondClass := l.foldl CondClass.higher .clear

/-- CLEAR or WARNING: the classes at which a step may run and a loader may resume (R49, R112). -/
def CondClass.admits (c : CondClass) : Bool := c == .clear || c == .warning

/-- The sample class of a raw value (R6). -/
def sampleClass (e : ChannelEntry) (raw : Nat) : SampleClass :=
  if raw = 65535 then .fault else if e.hi < raw then .over else if raw < e.lo then .under else .normal

/-- The count that is converted, for a usable sample (R6). -/
def convertedCount (e : ChannelEntry) (raw : Nat) : Nat :=
  match sampleClass e raw with
  | .over => e.hi
  | .under => e.lo
  | _ => raw

/-- The sounding of a usable sample (R7). -/
def sounding (e : ChannelEntry) (raw : Nat) : Nat :=
  (e.offset + (roundHalfUp (convertedCount e raw * e.scale) 1024 : Nat)).toNat

/-- The sounding a sample gives: none for a FAULT sample (R7, R10). -/
def sampleSounding (e : ChannelEntry) (raw : Nat) : Option Nat :=
  if sampleClass e raw = .fault then none else some (sounding e raw)

/-- The judgement of a channel's validity at a cycle close that finds its flag clear, `age` already increased
(R11). -/
def agedValidity (was : Validity) (everValid : Bool) (age limit : Nat) : Validity :=
  if was = .lost then .lost else if !everValid then .lost else if age ≤ limit then .held else .lost

/-- A view that may serve as a source: FRESH or HELD (R29). -/
def View.usable (v : View) : Bool := v.validity != .lost

/-- The source chosen from the views, none when the tank has no usable source (R29). -/
def chosenSource (hasSecondary : Bool) (p s : View) : Option Role :=
  if p.usable then some .primary else if hasSecondary && s.usable then some .secondary else none

/-- The tank class of an in-use, well-bound tank with valid tables (R30, the last five cases). -/
def sourceClass (src : Option Role) (p s : View) (disagreement : Bool) : TankClass :=
  match src with
  | none => .indefinite
  | some r =>
    let v := if r = .primary then p else s
    if v.validity = .held then .degraded
    else if v.cls = some .over ∨ v.cls = some .under then .degraded
    else if disagreement then .degraded
    else .good

/-- The limit for the sign of a value (R69). -/
def signLimit (v : Int) (pos neg : Nat) : Nat := if 0 ≤ v then pos else neg

/-- The class of SF or BM at a station (R69). -/
def stressClass (v : Int) (saturated reached : Bool) (limit warn : Nat) : CondClass :=
  if saturated then .over
  else if limit < v.natAbs then .over
  else if reached then .indefinite
  else if limit * warn < v.natAbs * 1000 then .warning
  else .clear

/-- The per mille of SF or BM (R70). -/
def stressPerMille (v : Int) (limit : Nat) : Nat := min (v.natAbs * 1000 / limit) Config.maxPerMille

/-- The draught class (R74). -/
def draughtClass (forced anyIndefinite : Bool) (fore aft mean maxDraught margin : Int) : CondClass :=
  if forced then .over
  else if maxDraught < fore ∨ maxDraught < aft ∨ maxDraught < mean then .over
  else if anyIndefinite then .indefinite
  else if maxDraught - margin ≤ fore ∨ maxDraught - margin ≤ aft ∨ maxDraught - margin ≤ mean then .warning
  else .clear

/-- The trim class (R75). -/
def trimClass (clamped anyIndefinite : Bool) (trim lo hi : Int) : CondClass :=
  if clamped ∨ trim < lo ∨ hi < trim then .over else if anyIndefinite then .indefinite else .clear

/-- Priority of a fault code, which is also its code in frames (R180, R194). -/
def FaultCode.priority : FaultCode → Nat
  | .tableInvalid => 1
  | .supplyLow => 2
  | .lineBreak => 3
  | .lineMapMismatch => 4
  | .pumpFailed => 5
  | .valveFault => 6
  | .nodeSilent => 7
  | .channelLost => 8
  | .gaugeDisagree => 9
  | .pourGap => 10
  | .draughtMismatch => 11

/-- A temporary code: its entry becomes GONE at an "ended" message (R180, R181). -/
def FaultCode.temporary : FaultCode → Bool
  | .supplyLow | .lineBreak | .nodeSilent | .channelLost | .gaugeDisagree | .pourGap | .draughtMismatch => true
  | _ => false

/-- The fault code of a priority number (R194). -/
def faultCodeOf : Nat → Option FaultCode
  | 1 => some .tableInvalid
  | 2 => some .supplyLow
  | 3 => some .lineBreak
  | 4 => some .lineMapMismatch
  | 5 => some .pumpFailed
  | 6 => some .valveFault
  | 7 => some .nodeSilent
  | 8 => some .channelLost
  | 9 => some .gaugeDisagree
  | 10 => some .pourGap
  | 11 => some .draughtMismatch
  | _ => none

/-- Whether a subject lies in its code's range (R180, R184). -/
def FaultCode.subjectOk (c : FaultCode) (subject : Nat) : Bool :=
  match c with
  | .tableInvalid => subject < 10
  | .supplyLow | .lineBreak | .lineMapMismatch | .draughtMismatch => subject == 0
  | .pumpFailed => subject < 4
  | .valveFault | .gaugeDisagree => subject < 64
  | .nodeSilent => 1 ≤ subject && subject ≤ 30
  | .channelLost => subject < 96
  | .pourGap => subject < 12

/-- Kind and subject of a report (R143). -/
def reportKey : Report → ReportKey
  | .loader r => .loader r.hold
  | .alert r => .alert r.subject
  | .fault r => .fault r.code r.subject
  | .ident _ => .ident
  | .ready _ => .ready
  | .condition _ => .condition
  | .progress r => .progress r.ctx

/-- Priority class of a kind (R143). -/
def ReportKey.cls : ReportKey → Nat
  | .loader _ => 1
  | .alert _ | .fault _ _ => 2
  | .ident | .ready => 3
  | .condition | .progress _ => 4

/-- Kind and subject of a queued entry (R144). -/
def ReportEntry.key (e : ReportEntry) : ReportKey := reportKey e.report

/-- The transmissions a freshly posted report has to come (R147). -/
def freshRemaining : Report → Nat
  | .ident _ => 3
  | .ready _ => 2
  | _ => 0

/-- The distance behind of a POUR frame, modulo 65,536 (R42). -/
def distanceBehind (lastSeq seq : Nat) : Nat := (((lastSeq : Int) - (seq : Int)) % 65536).toNat

end Sys2Proof.Machine
end

