-- ==== Sys2Proof/Machine/Ops.lean ====
section
/-! DEFINITION. The operations that several blocks share: reading and writing the records of each block, posting to the
Report Queue (R145), telling the Fault Unit (R181 to R183), judging the summary line (R185), taking an order with its
reply place (R172, R173), and the beginning of a cycle close (R158). -/

namespace Sys2Proof.Machine

open Sys2Proof

/-! ## Records -/

/-- The record of a channel (R4). -/
def chanRec (s : State) (c : Nat) : ChannelRec := s.chan.recs[c]?.getD ChannelRec.reset

/-- Write the record of a channel. -/
def setChan (c : Nat) (r : ChannelRec) (s : State) : State :=
  { s with chan := { s.chan with recs := s.chan.recs.setIfInBounds c r } }

/-- The dynamic part of a tank (R21). -/
def tankRec (s : State) (t : Nat) : TankRec := s.tank.recs[t]?.getD TankRec.reset

/-- Write the dynamic part of a tank. -/
def setTank (t : Nat) (r : TankRec) (s : State) : State :=
  { s with tank := { s.tank with recs := s.tank.recs.setIfInBounds t r } }

/-- The density in force of a tank (R19). -/
def density (s : State) (t : Nat) : Nat := s.tank.density[t]?.getD Config.defaultDensity

/-- Put a density into force (R19). -/
def setDensity (t d : Nat) (s : State) : State :=
  { s with tank := { s.tank with density := s.tank.density.setIfInBounds t d } }

/-- The record of a hold (R37). -/
def holdRec (s : State) (h : Nat) : HoldRec := s.hold.recs[h]?.getD HoldRec.reset

/-- Write the record of a hold. -/
def setHold (h : Nat) (r : HoldRec) (s : State) : State :=
  { s with hold := { s.hold with recs := s.hold.recs.setIfInBounds h r } }

/-- The record of a pump (R85). -/
def pumpRec (s : State) (p : Nat) : PumpRec := s.pump.recs[p]?.getD PumpRec.reset

/-- Write the record of a pump. -/
def setPump (p : Nat) (r : PumpRec) (s : State) : State :=
  { s with pump := { s.pump with recs := s.pump.recs.setIfInBounds p r } }

/-- The Node Table entry of an address from 1 to 30 (R160). -/
def nodeRec (s : State) (a : Nat) : NodeRec :=
  if a = 0 then NodeRec.reset else s.line.nodes[a - 1]?.getD NodeRec.reset

/-- Write the Node Table entry of an address from 1 to 30. -/
def setNode (a : Nat) (r : NodeRec) (s : State) : State :=
  if a = 0 then s else { s with line := { s.line with nodes := s.line.nodes.setIfInBounds (a - 1) r } }

/-- The record of a context (R105). -/
def ctxRec (s : State) (c : Ctx) : CtxRec :=
  match c with
  | .a => s.plan.ctxA
  | .b => s.plan.ctxB

/-- Write the record of a context. -/
def setCtx (c : Ctx) (r : CtxRec) (s : State) : State :=
  match c with
  | .a => { s with plan := { s.plan with ctxA := r } }
  | .b => { s with plan := { s.plan with ctxB := r } }

/-- The other context. -/
def otherCtx : Ctx → Ctx
  | .a => .b
  | .b => .a

/-! ## Tables in use -/

/-- The Channel Table entry of a channel in use; none for an unused entry and while the table is INVALID (R1, R3). -/
def chanEntry (s : State) (c : Nat) : Option ChannelEntry :=
  match (s.tables.channel.getD [])[c]? with
  | some e => if e.node = 0 then none else some e
  | none => none

/-- The fixed part of a tank, none while the Tank Table is INVALID (R17). -/
def tankFix (s : State) (t : Nat) : Option TankFix := (s.tables.tank.getD [])[t]?

/-- Whether a tank counts as in use: every tank does while the Tank Table is INVALID (R17). -/
def tankInUse (s : State) (t : Nat) : Bool :=
  match s.tables.tank with
  | none => t < Config.tanks
  | some tab =>
    match tab[t]? with
    | some f => f.primary.isSome
    | none => false

/-- The channel a tank names for a role (R17). -/
def TankFix.channel (f : TankFix) : Role → Option Nat
  | .primary => f.primary
  | .secondary => f.secondary

/-- The volume of the last sounding point (R20). -/
def TankFix.lastVolume (f : TankFix) : Nat := (f.points.getLast?.map SoundingPoint.volume).getD 0

/-- The sounding of the last sounding point (R23). -/
def TankFix.lastSounding (f : TankFix) : Nat := (f.points.getLast?.map SoundingPoint.sounding).getD 0

/-- The mass of a volume at a density (R26). -/
def massOf (volume density : Nat) : Nat := roundHalfUp (volume * density) 1000

/-- The capacity mass of a tank: 0 for an unused tank and while the Tank Table is INVALID (R20). -/
def capacity (s : State) (t : Nat) : Nat :=
  match tankFix s t with
  | some f => if f.primary.isSome then massOf f.lastVolume (density s t) else 0
  | none => 0

/-- Whether a tank's reach set holds a pump (R17). -/
def reaches (s : State) (t p : Nat) : Bool :=
  match tankFix s t with
  | some f => f.reach.contains p
  | none => false

/-- The suction valve output of a tank in use (R17). -/
def valveOutput (s : State) (t : Nat) : Option OutputRef :=
  match tankFix s t with
  | some f => if f.primary.isSome then some f.valve else none
  | none => none

/-- The starter output of a pump (R83). -/
def starterOutput (s : State) (p : Nat) : Option OutputRef := (s.tables.actuator.getD [])[p]?

/-! ## The Condition Record as it is read (R79) -/

/-- The result read from a record "none yet": classes INDEFINITE, values 0 (R79, R151), and for the limit set, to which
neither rule gives a value, HARBOUR (DESIGN CHOICE, log entry 60). -/
def noResult : EvalResult :=
  ⟨0, 0, .harbour, 0, 0, 0, 0, 0, [], .indefinite, .indefinite, .indefinite, false, none⟩

/-- No measured draught. -/
def noMeasured : Measured := ⟨none, none, none, none, none⟩

/-- The Condition Record's result, "none yet" read by R79. -/
def conditionResult (s : State) : EvalResult := (s.hull.condition.map CondRecord.res).getD noResult

/-- The overall class of the Condition Record, INDEFINITE while "none yet" (R79). -/
def overallClass (s : State) : CondClass := (conditionResult s).overall

/-! ## The Fault List's entries -/

/-- The entry of a code and subject (R180). -/
def findFault (s : State) (code : FaultCode) (subject : Nat) : Option FaultEntry :=
  s.fault.list.find? (fun e => e.code == code && e.subject == subject)

/-- Change the entry of a code and subject. -/
def updateFault (code : FaultCode) (subject : Nat) (f : FaultEntry → FaultEntry) (s : State) : State :=
  { s with fault := { s.fault with
      list := s.fault.list.map (fun e => if e.code == code && e.subject == subject then f e else e) } }

/-- The state of the summary line that R185's law asks for. With 32 entries of priority 1 to 6, all GONE, a condition that
found no place asserts the line by R185's last sentences and not by its law, which wants an ACTIVE entry: the law is
followed (DESIGN CHOICE, log entry 65). -/
def summaryDue (s : State) : Bool :=
  s.fault.list.any (fun e => e.active && e.code.priority ≤ 6) || overallClass s == .over

/-- The Fault Unit judges the summary line again (R185). -/
def judgeSummary (s : State) : State := { s with fault := { s.fault with summary := summaryDue s } }

/-! ## Posting to the Report Queue (R145, R149) -/

/-- The outcome told to the poster (R145). -/
inductive PostOutcome where
  | merged
  | queued
  | dropped
deriving DecidableEq, Repr

/-- What a post makes of the queue; `displaced` is the key of an entry removed to make room (R145). -/
structure PostResult where
  queue : List ReportEntry
  outcome : PostOutcome
  displaced : Option ReportKey
deriving DecidableEq, Repr

/-- The contents after a merge: those of the new post, but an ALERT keeps its old class and its peak (R145, R149). -/
def mergedReport (queued new : Report) : Report :=
  match queued, new with
  | .alert q, .alert n => .alert { n with old := q.old, peak := q.peak.higher n.new }
  | _, n => n

/-- An ALERT with old, new and peak class all equal is withdrawn at its merge (R149). -/
def withdrawn : Report → Bool
  | .alert r => r.old == r.new && r.new == r.peak
  | _ => false

/-- The highest class number present, which is the lowest priority (R145). -/
def lowestClass (q : List ReportEntry) : Nat := q.foldl (fun m e => max m e.key.cls) 0

/-- A fresh entry (R144). -/
def freshEntry (r : Report) : ReportEntry := ⟨r, true, freshRemaining r⟩

/-- Place a posted report in the queue (R145). -/
def postQueue (r : Report) (q : List ReportEntry) : PostResult :=
  match q.find? (fun e => e.key == reportKey r) with
  | some e =>
    let m := mergedReport e.report r
    if withdrawn m then ⟨removeFirst (fun e => e.key == reportKey r) q, .merged, none⟩
    else ⟨replaceFirst (fun e => e.key == reportKey r) (fun _ => freshEntry m) q, .merged, none⟩
  | none =>
    if q.length < Config.reportQueue then ⟨q ++ [freshEntry r], .queued, none⟩
    else if (reportKey r).cls < lowestClass q then
      let low := lowestClass q
      ⟨removeFirst (fun e => e.key.cls == low) q ++ [freshEntry r], .queued,
        (q.find? (fun e => e.key.cls == low)).map ReportEntry.key⟩
    else ⟨q, .dropped, none⟩

/-- The Fault Unit is told DISPLACED: the report owed flag of the entry is set (R183). -/
def tellDisplaced (k : Option ReportKey) (s : State) : State :=
  match k with
  | some (.fault code subject) => updateFault code subject (fun e => { e with owed := true }) s
  | _ => s

/-- Post a report (R145). -/
def post (r : Report) (s : State) : State :=
  let res := postQueue r s.report.queue
  tellDisplaced res.displaced { s with report := { s.report with queue := res.queue } }

/-- The outcome a post would have (R145). -/
def postOutcome (r : Report) (s : State) : PostOutcome := (postQueue r s.report.queue).outcome

/-! ## Telling the Fault Unit (R181 to R183) -/

/-- The Fault Unit posts the FAULT report of an entry and keeps the report owed flag by the outcome (R183). -/
def postFault (code : FaultCode) (subject : Nat) (s : State) : State :=
  match findFault s code subject with
  | none => s
  | some e =>
    let r : Report := .fault ⟨code, subject, e.firstCycle, e.active, s.line.lastClosed⟩
    let owed := postOutcome r s == .dropped
    updateFault code subject (fun e => { e with owed := owed }) (post r s)

/-- The largest priority number among the entries, which is the lowest priority (R182). -/
def lowestPriority (l : List FaultEntry) : Nat := l.foldl (fun m e => max m e.code.priority) 0

/-- Join an entry for a condition that has become active (R181). -/
def joinFault (code : FaultCode) (subject : Nat) (s : State) : State :=
  let e : FaultEntry := ⟨code, subject, s.line.lastClosed, true, false, false⟩
  judgeSummary (postFault code subject { s with fault := { s.fault with list := s.fault.list ++ [e] } })

/-- The Fault Unit is told that a condition is active (R181, R182). -/
def tellActive (code : FaultCode) (subject : Nat) (s : State) : State :=
  match findFault s code subject with
  | some e =>
    if e.active then s
    else judgeSummary (postFault code subject
      (updateFault code subject (fun e => { e with active := true, reported := false }) s))
  | none =>
    if s.fault.list.length < Config.faultList then joinFault code subject s
    else if code.priority < lowestPriority s.fault.list then
      let low := lowestPriority s.fault.list
      joinFault code subject
        { s with fault := { s.fault with list := removeFirst (fun e => e.code.priority == low) s.fault.list } }
    else { s with fault := { s.fault with listFull := true } }

/-- An ACTIVE entry becomes GONE, by whatever event its code gives (R181). -/
def makeGone (code : FaultCode) (subject : Nat) (s : State) : State :=
  match findFault s code subject with
  | some e =>
    if e.active then judgeSummary (postFault code subject
      (updateFault code subject (fun e => { e with active := false, reported := false }) s))
    else s
  | none => s

/-- The Fault Unit is told that a condition has ended; for a latched code this changes nothing (R181). -/
def tellEnded (code : FaultCode) (subject : Nat) (s : State) : State :=
  if code.temporary then makeGone code subject s else s

/-- Tell the Fault Unit of a flag that passed from `was` to `is` (R31, R44, R77). -/
def tellChange (code : FaultCode) (subject : Nat) (was is : Bool) (s : State) : State :=
  if was == is then s else if is then tellActive code subject s else tellEnded code subject s

/-! ## Orders and their reply places (R172, R173, R178, R193) -/

/-- How an owning block answers: at once, or later (a PROJECT taken by R61). -/
inductive Answer where
  | now (code : ReplyCode) (body : ReplyBody)
  | later
deriving DecidableEq, Repr

/-- Answer at once without a body, changing nothing. -/
def refuse (code : ReplyCode) (s : State) : State × Answer := (s, .now code .none)

/-- Answer ACCEPTED without a body. -/
def accept (s : State) : State × Answer := (s, .now .accepted .none)

/-- Whether the part is in a reset, in which it takes no command of its lines (log entry 8). -/
def inReset (s : State) : Bool := s.start.inReset.isSome

/-- Whether a SETUP-END write is in flight (R193). -/
def writing (s : State) : Bool := s.start.write.isSome

/-- The receiver is hunting again after the last check byte of a frame (R171). -/
def frameEnd (s : State) : State := { s with console := { s.console with collecting := false } }

/-- The place state that an answer leaves (R173). -/
def placeState : Answer → PlaceState
  | .now code body => .ready code body
  | .later => .onFlag

/-- Take a place in the reply queue with the answer it holds (R173). -/
def addPlace (tag order : Nat) (a : Answer) (s : State) : State :=
  { s with console := { s.console with places := s.console.places ++ [⟨tag, order, placeState a⟩] } }

/-- Take an ORDER or FORWARD: discarded and counted when 8 places are held (R173). -/
def takeFrame (tag order : Nat) (h : State → State × Answer) (s : State) : State :=
  if inReset s then s
  else if Config.replyPlaces ≤ s.console.places.length then
    let s := frameEnd s
    { s with console := { s.console with discardedOrders := bump 65535 s.console.discardedOrders } }
  else
    let r := h (frameEnd s)
    addPlace tag order r.2 r.1

/-- Take an order that a SETUP-END write and a pending RESET refuse BUSY: every order but STATUS (R178, R193). -/
def takeOrder (tag order : Nat) (h : State → State × Answer) (s : State) : State :=
  takeFrame tag order (fun s => if writing s || s.console.resetPending then refuse .busy s else h s) s

/-- Hand the arguments on, or answer OUT-OF-RANGE for a body whose layout R194 refuses (R172). -/
def withArgs {α : Type} (body : Body α) (h : α → State → State × Answer) (s : State) : State × Answer :=
  match body with
  | .fields a => h a s
  | .badLayout => refuse .outOfRange s

/-! ## The cycle close (R158; log entry 6) -/

/-- The first step of a cycle close: the cycle that ends is from here on the last to have closed. -/
def beginClose (s : State) : State :=
  if s.close.begun then s
  else { s with close := ⟨true, []⟩, line := { s.line with lastClosed := s.line.cycle } }

/-- Whether a cycle close can come: the slots of the cycle have passed, and the part is not in a reset. -/
def closeable (s : State) : Bool := !inReset s && s.line.part == .afterSlot

/-- Note a step of the close as taken ahead of CYCLE_CLOSE. -/
def takeStep (c : CloseStep) (s : State) : State := { s with close := { s.close with taken := c :: s.close.taken } }

/-- Whether a step of this close has been taken ahead. -/
def stepTaken (s : State) (c : CloseStep) : Bool := s.close.taken.contains c

/-- A step of the close taken on its own: `work` when the step is `due` at this close and not taken yet, nothing
otherwise (log entries 6 and 7). -/
def closeStep (c : CloseStep) (due : State → Bool) (work : State → State) (s : State) : State :=
  if closeable s && !stepTaken s c && due s then takeStep c (work (beginClose s)) else s

/-- A step of the close within CYCLE_CLOSE: left out when it was taken ahead. -/
def unlessTaken (c : CloseStep) (work : State → State) (s : State) : State := if stepTaken s c then s else work s

/-- Every phase from ANNOUNCE on (R13, R106, R153, R155). -/
def announced (s : State) : Bool :=
  match s.start.phase with
  | .selfCheck | .enumerate => false
  | .announce | .ready | .run => true

end Sys2Proof.Machine
end

