-- ==== Sys2Proof/Machine/Cargo.lean ====
section
/-! DEFINITION. The Cargo Unit (spec/03_hold_cargo_and_pour_accounting.md): pours (R41 to R44) and loader requests
(R47 to R51). -/

namespace Sys2Proof.Machine

open Sys2Proof

/-- Set a hold's loader request and post the LOADER report of the record as it then stands (R51). -/
def postLoader (h : Nat) (stop : Bool) (s : State) : State :=
  let r := holdRec s h
  let s := setHold h { r with stopRequested := stop } s
  post (.loader ⟨h, stop, r.mass, r.allowance, overallClass s, s.line.lastClosed⟩) s

/-- RESUME when it is due after a change of mass or allowance, or at an admitting completion (R49). -/
def resumeDecision (h : Nat) (s : State) : State :=
  let r := holdRec s h
  if r.stopRequested && r.mass < r.allowance && overallClass s != .over then postLoader h false s else s

/-- The loader decision after an accepted pour: the four cases of R47's table. R48 hands the pour after an OVER completion
to this table too (log entry 58). -/
def loaderDecision (h : Nat) (s : State) : State :=
  let r := holdRec s h
  if r.allowance ≤ r.mass then postLoader h true s
  else if !r.stopRequested then s
  else if overallClass s != .over then postLoader h false s
  else postLoader h true s

/-- The classification of a checked POUR frame (R42). -/
inductive PourClass where
  | newRun
  | inOrder
  | duplicate
  | gap
deriving DecidableEq, Repr

/-- Classify a frame against a hold's last run and sequence (R42). -/
def classifyPour (r : HoldRec) (f : PourFrame) : PourClass :=
  if r.lastRun ≠ some f.run then .newRun
  else if f.seq = (r.lastSeq + 1) % 65536 then .inOrder
  else if distanceBehind r.lastSeq f.seq ≤ Config.duplicateWindow then .duplicate
  else .gap

/-- The record after an accepted pour (R43, R44). -/
def pouredRec (r : HoldRec) (f : PourFrame) (gap : Bool) : HoldRec :=
  { r with
    mass := min (r.mass + f.quantity) Config.maxHoldMass
    unsure := r.unsure || gap || decide (Config.maxHoldMass < r.mass + f.quantity)
    lastRun := some f.run
    lastSeq := f.seq
    phase := if f.final then .finished else .pouring }

/-- An accepted pour: the record, POUR-GAP when the unsure flag became set, the loader decision (R43, R44, R47). -/
def acceptPour (f : PourFrame) (gap : Bool) (s : State) : State :=
  let r := holdRec s f.hold
  let n := pouredRec r f gap
  loaderDecision f.hold (tellChange .pourGap f.hold r.unsure n.unsure (setHold f.hold n s))

/-- A POUR frame: checked, classified, accepted or discarded (R41, R42). -/
def takePour (f : PourFrame) (s : State) : State :=
  if Config.holds ≤ f.hold ∨ Config.maxPour < f.quantity then s
  else
    match classifyPour (holdRec s f.hold) f with
    | .newRun => acceptPour f false s
    | .inOrder => acceptPour f false s
    | .duplicate => s
    | .gap => acceptPour f true s

/-- A mass set by HOLD-SET (R45). -/
def setHoldMass (h mass : Nat) (s : State) : State :=
  let r := holdRec s h
  resumeDecision h (tellChange .pourGap h r.unsure false (setHold h { r with mass := mass, unsure := false } s))

/-- An allowance written by VOYAGE-SET (R40). -/
def setAllowance (h allowance : Nat) (s : State) : State :=
  let r := holdRec s h
  resumeDecision h (setHold h { r with allowance := allowance } s)

/-- STOP at an OVER completion for a POURING hold with request NONE (R48). -/
def stopOnOver (h : Nat) (s : State) : State :=
  let r := holdRec s h
  if r.phase = .pouring ∧ !r.stopRequested then postLoader h true s else s

/-- A STOP of a retained record taken up at the first CURRENT completion of a start (R50). -/
def takeUpStop (h : Nat) (s : State) : State :=
  let r := holdRec s h
  if (overallClass s).admits ∧ r.mass < r.allowance then postLoader h false s else postLoader h true s

/-- What one hold takes from a CURRENT completion (R48 to R50). -/
def holdAtCompletion (takeUp : Bool) (h : Nat) (s : State) : State :=
  if takeUp && (holdRec s h).stopRequested then takeUpStop h s
  else
    match overallClass s with
    | .over => stopOnOver h s
    | .indefinite => s
    | _ => resumeDecision h s

/-- The Cargo Unit takes a CURRENT completion (R48 to R50), the holds in increasing order of number (DESIGN CHOICE, log
entry 56). -/
def cargoHandOn (s : State) : State :=
  let takeUp := s.hold.takeUp
  let s := { s with hold := { s.hold with takeUp := false } }
  (List.range Config.holds).foldl (fun s h => holdAtCompletion takeUp h s) s

/-- POUR-GAP is told again for each unsure hold at the SELF-CHECK of a start after a reset (R39), the holds in increasing
order of number (DESIGN CHOICE, log entry 56). -/
def tellUnsureHolds (s : State) : State :=
  (List.range Config.holds).foldl (fun s h => if (holdRec s h).unsure then tellActive .pourGap h s else s) s

end Sys2Proof.Machine
end

