-- ==== Sys2Proof/Machine/Contents.lean ====
section
/-! DEFINITION. The Contents Unit (spec/02_tank_contents.md): the conversion from sounding to mass (R23 to R26), views
and source (R28, R29), class (R30), disagreement (R31), rate (R33), conversions in flight (R27) and density changes
(R19). -/

namespace Sys2Proof.Machine

open Sys2Proof

/-- The corrected sounding (R23). -/
def correctedSounding (f : TankFix) (trim : Int) (snd : Nat) : Nat :=
  (clampInt 0 f.lastSounding (snd + roundDiv (f.trimCoef * trim) 1000)).toNat

/-- The volume at a corrected sounding, by the sounding points (R24). -/
def volumeAt : List SoundingPoint → Nat → Nat
  | [], _ => 0
  | [p], _ => p.volume
  | p :: q :: rest, snd =>
    if snd < q.sounding then
      p.volume + (snd - p.sounding) * (q.volume - p.volume) / (q.sounding - p.sounding)
    else volumeAt (q :: rest) snd

/-- The view of a role (R21). -/
def TankRec.view (r : TankRec) : Role → View
  | .primary => r.viewP
  | .secondary => r.viewS

/-- Replace the view of a role. -/
def TankRec.setView (r : TankRec) (role : Role) (v : View) : TankRec :=
  match role with
  | .primary => { r with viewP := v }
  | .secondary => { r with viewS := v }

/-- Whether a tank names a secondary channel (R17). -/
def hasSecondary (s : State) (t : Nat) : Bool :=
  match tankFix s t with
  | some f => f.secondary.isSome
  | none => false

/-- The source that R29 chooses from a record's views. -/
def sourceOf (s : State) (t : Nat) (r : TankRec) : Option Role := chosenSource (hasSecondary s t) r.viewP r.viewS

/-- The disagreement of a record's views with the conversion trim now in force (R31). -/
def judgeDisagreement (s : State) (t : Nat) (r : TankRec) : Bool :=
  match tankFix s t, r.viewP.sounding, r.viewS.sounding with
  | some f, some p, some q =>
    f.secondary.isSome && r.viewP.validity == .fresh && r.viewS.validity == .fresh &&
      f.tolerance <
        ((correctedSounding f s.tank.convTrim p : Int) - correctedSounding f s.tank.convTrim q).natAbs
  | _, _, _ => false

/-- The class of a tank (R30). -/
def gradeTank (s : State) (t : Nat) (r : TankRec) : TankClass :=
  if !tankInUse s t then .good
  else if s.tables.tank.isNone || s.tables.channel.isNone then .indefinite
  else if r.misBound then .indefinite
  else sourceClass (sourceOf s t r) r.viewP r.viewS r.disagreement

/-- Begin a conversion, or let it wait for the one in flight (R27); it reads trim and density as it begins. -/
def beginConversion (t : Nat) (q : ConvRequest) (s : State) : State :=
  let r := tankRec s t
  match r.conv with
  | none => setTank t { r with conv := some ⟨q, s.tank.convTrim, density s t⟩ } s
  | some _ => setTank t { r with waiting := r.waiting ++ [q] } s

/-- Write the class at once after an event that begins no conversion, also while an earlier one is in flight (R30). -/
def gradeAtOnce (t : Nat) (s : State) : State :=
  let r := tankRec s t
  setTank t { r with cls := gradeTank s t r } s

/-- Judge and write the disagreement, telling the Fault Unit of a change (R31). -/
def applyDisagreement (t : Nat) (s : State) : State :=
  let r := tankRec s t
  let d := judgeDisagreement s t r
  tellChange .gaugeDisagree t r.disagreement d (setTank t { r with disagreement := d } s)

/-- Whether hand-ons of a channel reach a tank for a role: the tank's entry names it, and the tank is not mis-bound
(R28, R36). -/
def namedFor (s : State) (t : Nat) (role : Role) (channel : Nat) : Bool :=
  match tankFix s t with
  | some f => f.channel role == some channel && !(tankRec s t).misBound
  | none => false

/-- A new channel value for a tank and role (R28, R29): views, source, disagreement, then the sample conversion that it
begins, or the class at once. -/
def handValue (channel t : Nat) (role : Role) (snd : Nat) (cls : SampleClass) (s : State) : State :=
  if namedFor s t role channel then
    let r := (tankRec s t).setView role ⟨.fresh, some snd, some cls⟩
    let src := sourceOf s t r
    let s := applyDisagreement t (setTank t { r with source := src.getD r.source } s)
    if src = some role then beginConversion t ⟨.sample, role, snd⟩ s else gradeAtOnce t s
  else s

/-- A validity hand-on at a cycle close (R28, R29, R32, R33): a change of source re-converts the new source's sounding;
the rate is absent when the source view became HELD or LOST. -/
def handValidity (channel t : Nat) (role : Role) (v : Validity) (s : State) : State :=
  if namedFor s t role channel then
    let old := tankRec s t
    let r := old.setView role { old.view role with validity := v }
    let before := sourceOf s t old
    let src := sourceOf s t r
    let r := { r with source := src.getD old.source }
    let r := if old.source = role then { r with rate := none, rateBasis := none } else r
    let s := applyDisagreement t (setTank t r s)
    match src with
    | some new =>
      if before = some new then gradeAtOnce t s
      else
        match (r.view new).sounding with
        | some snd => beginConversion t ⟨.reconvert, new, snd⟩ s
        | none => gradeAtOnce t s
    | none => gradeAtOnce t s
  else s

/-- Put a density into force and take the mass anew from the volume held (R19). -/
def reconvertDensity (t d : Nat) (s : State) : State :=
  let r := tankRec s t
  setTank t { r with mass := massOf r.volume d, rate := none, rateBasis := none } (setDensity t d s)

/-- A density change: at once, or when the conversion in flight ends (R19). -/
def changeDensity (t d : Nat) (s : State) : State :=
  let r := tankRec s t
  match r.conv with
  | none => reconvertDensity t d s
  | some _ => setTank t { r with newDensity := some d } s

/-- The record that a conversion writes at its end (R23 to R26, R33, R27). The class is graded from the views as they stand
then, also where a later event's conversion waits (DESIGN CHOICE, log entry 63). -/
def convertedRec (s : State) (t : Nat) (f : TankFix) (c : Conversion) (r : TankRec) : TankRec :=
  let volume := volumeAt f.points (correctedSounding f c.trim c.request.sounding)
  let mass := massOf volume c.density
  let r := { r with
    volume := volume
    mass := mass
    rate :=
      if c.request.kind = ConvKind.sample ∧ r.rateBasis = some c.request.role then some ((mass : Int) - r.mass) else none
    rateBasis := if c.request.kind = ConvKind.sample then some c.request.role else none
    conv := none }
  { r with cls := gradeTank s t r }

/-- The conversion in flight ends and its contents are written (R27). -/
def writeConversion (t : Nat) (c : Conversion) (s : State) : State :=
  let r := tankRec s t
  match tankFix s t with
  | some f => setTank t (convertedRec s t f c r) s
  | none => setTank t { r with conv := none } s

/-- A density that waited for the conversion takes effect as it ends (R19). -/
def applyNewDensity (t : Nat) (s : State) : State :=
  let r := tankRec s t
  match r.newDensity with
  | none => s
  | some d => reconvertDensity t d (setTank t { r with newDensity := none } s)

/-- The conversion waiting first begins (R27). -/
def nextConversion (t : Nat) (s : State) : State :=
  let r := tankRec s t
  match r.waiting with
  | [] => s
  | q :: rest => beginConversion t q (setTank t { r with waiting := rest } s)

/-- The dynamic part as the Contents Unit takes its tables at the end of SELF-CHECK (R21, R30, R36): reset values, the
mis-bound mark, and the class. No pump serves a tank then (R85), so the serving pump is left as it stands. -/
def tankAtSelfCheck (s : State) (t : Nat) (misBound : Bool) (old : TankRec) : TankRec :=
  let r := { TankRec.reset with misBound := misBound, serving := old.serving }
  { r with cls := gradeTank s t r }

end Sys2Proof.Machine
end

