-- ==== Sys2Proof/Machine/Channels.lean ====
section
/-! DEFINITION. The Channel Unit (spec/01_gauge_channels_and_sample_classes.md): samples (R5 to R9), SAMPLE frames
(R10), ageing (R11), CHANNEL-LOST (R13), the measured draughts (R14, R15), and the sample relay FIFO (R175). -/

namespace Sys2Proof.Machine

open Sys2Proof

/-- A binding suits a node's kind (R5). -/
def bindingSuits (b : Binding) (k : NodeKind) : Bool :=
  match b, k with
  | .tank _ _, .gauge => true
  | .mark _, .draught => true
  | _, _ => false

/-- Whether a channel receives the value at an index of a node's frame (R5). -/
def receives (s : State) (node idx : Nat) (k : NodeKind) (c : Nat) : Bool :=
  match chanEntry s c with
  | some e =>
    e.node == node && e.index == idx &&
      (match e.binding with
       | some b => bindingSuits b k
       | none => false)
  | none => false

/-- The channel that receives a value (R5); R2 leaves at most one. -/
def receivingChannel (s : State) (node idx : Nat) (k : NodeKind) : Option Nat :=
  (List.range Config.channels).find? (receives s node idx k)

/-- Set a mark's value in the measured draught set (R14). -/
def setMark (m : Mark) (v : Option Nat) (s : State) : State :=
  let d := s.chan.draughts
  let d := match m with
    | .fore => { d with fore := v }
    | .aft => { d with aft := v }
    | .midPort => { d with midPort := v }
    | .midStbd => { d with midStbd := v }
  { s with chan := { s.chan with draughts := d } }

/-- The measured mean draught (R15). -/
def measuredMean (d : DraughtSet) : Option Nat :=
  match d.fore, d.aft with
  | some f, some a => some ((f + a) / 2)
  | _, _ => none

/-- The measured draught set with its mean, as a CURRENT evaluation copies it (R15). -/
def measuredNow (s : State) : Measured :=
  let d := s.chan.draughts
  ⟨d.fore, d.aft, d.midPort, d.midStbd, measuredMean d⟩

/-- Clear loss raised, telling the Fault Unit that CHANNEL-LOST has ended (R8, R4). -/
def endLoss (c : Nat) (s : State) : State :=
  let r := chanRec s c
  if r.lossRaised then tellEnded .channelLost c (setChan c { r with lossRaised := false } s) else s

/-- Hand a usable sample's value on by the binding (R8). -/
def handSample (c : Nat) (e : ChannelEntry) (raw : Nat) (s : State) : State :=
  match e.binding with
  | some (.tank t role) => handValue c t role (sounding e raw) (sampleClass e raw) s
  | some (.mark m) => setMark m (some (sounding e raw)) s
  | none => s

/-- A usable sample updates its record and is handed on (R8). -/
def usableSample (c : Nat) (e : ChannelEntry) (raw : Nat) (s : State) : State :=
  let r := chanRec s c
  let s := setChan c { r with
    validity := .fresh
    age := 0
    everValid := true
    usable := true
    lastGood := some (sounding e raw)
    lastClass := some (sampleClass e raw) } s
  handSample c e raw (endLoss c s)

/-- One raw value of a usable frame: a usable sample, or a FAULT sample, which changes nothing (R8, R9). -/
def takeValue (node idx : Nat) (k : NodeKind) (raw : Nat) (s : State) : State :=
  match receivingChannel s node idx k with
  | none => s
  | some c =>
    match chanEntry s c with
    | none => s
    | some e => if sampleClass e raw = .fault then s else usableSample c e raw s

/-- The values of a frame, which stand in channel-index order (R5), each taken whole in that order (DESIGN CHOICE, log
entry 56). -/
def takeValues (node : Nat) (k : NodeKind) : Nat → List Nat → State → State
  | _, [], s => s
  | idx, raw :: rest, s => takeValues node k (idx + 1) rest (takeValue node idx k raw s)

/-- An item that reaches no entry (R10). -/
def plainItem (raw : Nat) : SampleItem := ⟨raw, none, none, none⟩

/-- The item of a SAMPLE frame for a raw value (R10). -/
def sampleItem (s : State) (node idx : Nat) (k : NodeKind) (raw : Nat) : SampleItem :=
  match receivingChannel s node idx k with
  | none => plainItem raw
  | some c =>
    match chanEntry s c with
    | none => plainItem raw
    | some e => ⟨raw, some (sampleClass e raw), sampleSounding e raw, e.binding⟩

/-- The items of a SAMPLE frame, in channel-index order (R10). -/
def sampleItems (s : State) (node : Nat) (k : NodeKind) : Nat → List Nat → List SampleItem
  | _, [] => []
  | idx, raw :: rest => sampleItem s node idx k raw :: sampleItems s node k (idx + 1) rest

/-- A SAMPLE frame joins the relay FIFO, the oldest giving way when it is full (R175). -/
def relayFrame (f : SampleFrame) (s : State) : State :=
  if !s.settings.relay then s
  else if s.console.relay.length < Config.relayFifo then
    { s with console := { s.console with relay := s.console.relay ++ [f] } }
  else
    { s with console := { s.console with
        relay := s.console.relay.tail ++ [f]
        droppedSamples := bump 65535 s.console.droppedSamples } }

/-- Hand a validity on by the binding when it has changed (R11, R14). -/
def handChange (c : Nat) (e : ChannelEntry) (v : Validity) (s : State) : State :=
  match e.binding with
  | some (.tank t role) => handValidity c t role v s
  | some (.mark m) => setMark m none s
  | none => s

/-- Raise CHANNEL-LOST when all its conditions hold (R13). -/
def raiseLoss (c : Nat) (s : State) : State :=
  let r := chanRec s c
  if announced s && r.validity == .lost && s.settings.staleLimit < r.age && !r.lossRaised then
    tellActive .channelLost c (setChan c { r with lossRaised := true } s)
  else s

/-- Whether the judgement of this close would make a channel LOST that is not (R11). -/
def staleDue (c : Nat) (s : State) : Bool :=
  let r := chanRec s c
  (chanEntry s c).isSome && !r.usable && r.validity != .lost &&
    agedValidity r.validity r.everValid (bump 255 r.age) s.settings.staleLimit == .lost

/-- A channel in use is judged at a cycle close (R11, R13). -/
def ageChannel (c : Nat) (s : State) : State :=
  match chanEntry s c with
  | none => s
  | some e =>
    let r := chanRec s c
    if r.usable then setChan c { r with usable := false } s
    else
      let age := bump 255 r.age
      let v := agedValidity r.validity r.everValid age s.settings.staleLimit
      let s := setChan c { r with age := age, validity := v } s
      raiseLoss c (if v = r.validity then s else handChange c e v s)

/-- The Channel Unit's work at a cycle close: every channel, less those judged ahead of it (R11; log entry 6), in
increasing order of number (DESIGN CHOICE, log entry 56). -/
def channelClose (s : State) : State :=
  (List.range Config.channels).foldl (fun s c => unlessTaken (.channel c) (ageChannel c) s) s

/-- On entry to ANNOUNCE the age of every channel never valid becomes 0 (R13). -/
def graceAges (s : State) : State :=
  { s with chan := { s.chan with recs := s.chan.recs.map (fun r => if r.everValid then r else { r with age := 0 }) } }

/-- The record reset: loss raised is cleared with its message, the channels in increasing order of number (DESIGN
CHOICE, log entry 56), then every record is reset (R4). It is made at a restart, and where SELF-CHECK grades the Channel
Table INVALID (R3). -/
def restartChannels (s : State) : State :=
  let s := (List.range Config.channels).foldl (fun s c => endLoss c s) s
  { s with chan := ChannelState.reset }

end Sys2Proof.Machine
end

