-- ==== Sys2Proof/Machine/Hull.lean ====
section
/-! DEFINITION. The Hull Evaluator (spec/04_hull_condition_evaluation.md): the snapshot (R65, R66), the stages of an
evaluation (R67 to R78), and the engine's taking of requests (R62, R63). -/

namespace Sys2Proof.Machine

open Sys2Proof

/-! ## The snapshot -/

/-- A tank as a snapshot copies it (R65). -/
def tankItem (s : State) (t : Nat) : ItemSnap :=
  match tankFix s t with
  | some f =>
    if f.primary.isSome then ⟨(tankRec s t).mass, (tankRec s t).cls, f.lever, false⟩ else ⟨0, .good, 0, false⟩
  | none => if tankInUse s t then ⟨(tankRec s t).mass, (tankRec s t).cls, 0, false⟩ else ⟨0, .good, 0, false⟩

/-- A hold as a snapshot copies it: INDEFINITE with lever 0 while the hold lever table is INVALID (R38, R46, R65). -/
def holdItem (s : State) (h : Nat) : ItemSnap :=
  let r := holdRec s h
  match s.tables.lever with
  | some l => ⟨r.mass, .good, l[h]?.getD 0, r.unsure⟩
  | none => ⟨r.mass, .indefinite, 0, r.unsure⟩

/-- The 76 items as a snapshot copies them (R65). -/
def itemsNow (s : State) : List ItemSnap :=
  (List.range Config.tanks).map (tankItem s) ++ (List.range Config.holds).map (holdItem s)

/-- One substitution: the mass given, class GOOD, the unsure flag not counted, the lever kept (R66). -/
def substitute (items : List ItemSnap) (q : Substitution) : List ItemSnap :=
  items.modify q.item (fun i => { i with mass := q.mass, cls := .good, unsure := false })

/-- The substitutions of an evaluation's request (R66). -/
def EvalKind.subs : EvalKind → List Substitution
  | .current => []
  | .step r => r.subs
  | .order r => r.subs

/-- Whether all four hull tables are valid (R56). -/
def hullTablesValid (s : State) : Bool :=
  s.tables.base.isSome && s.tables.influence.isSome && s.tables.limits.isSome && s.tables.hydro.isSome

/-- The snapshot of an evaluation, its substitutions applied (R65, R66). -/
def snapshotNow (k : EvalKind) (s : State) : Snapshot where
  items := k.subs.foldl substitute (itemsNow s)
  settings := s.settings.eval
  tablesValid := hullTablesValid s
  cycle := s.line.lastClosed
  measured := if k = .current then measuredNow s else noMeasured

/-! ## The stages -/

/-- A coefficient of the influence table (R53). -/
def coefOf (table : List (List Coef)) (item station : Nat) : Coef :=
  ((table[item]?.getD [])[station]?).getD ⟨0, 0⟩

/-- The sum over all items of mass times a lever or share (R67, R68, R73). -/
def itemSum (items : List ItemSnap) (w : Nat → ItemSnap → Int) : Int :=
  (items.mapIdx (fun i it => (it.mass : Int) * w i it)).sum

/-- A value with its saturation mark (R67, R68). -/
def saturate (v : Int) : Int × Bool :=
  (clampInt (-Config.maxStress) Config.maxStress v, decide (v < -Config.maxStress ∨ Config.maxStress < v))

/-- Whether some INDEFINITE item has a non-zero coefficient (R69). -/
def reached (items : List ItemSnap) (coef : Nat → Int) : Bool :=
  (items.mapIdx (fun i it => it.cls == .indefinite && coef i != 0)).any id

/-- The limits of a station in the chosen set (R54, R57). -/
def limitsAt (l : LimitSets) (which : LimitSet) (station : Nat) : StationLimits :=
  let set := match which with
    | .harbour => l.harbour
    | .sea => l.sea
  set[station]?.getD ⟨1, 1, 1, 1⟩

/-- The shear force at a station before saturation (R67). -/
def shearAt (b : BaseRecord) (inf : List (List Coef)) (items : List ItemSnap) (st : Nat) : Int :=
  b.sf0[st]?.getD 0 + roundDiv (itemSum items (fun i _ => (coefOf inf i st).fS)) 65536

/-- The bending moment at a station before saturation (R68). -/
def momentAt (b : BaseRecord) (inf : List (List Coef)) (items : List ItemSnap) (st : Nat) : Int :=
  b.bm0[st]?.getD 0 + roundDiv (itemSum items (fun i _ => (coefOf inf i st).fM)) 10000

/-- One station of the list (R67 to R70). -/
def stationResult (b : BaseRecord) (inf : List (List Coef)) (lim : LimitSets) (snap : Snapshot) (st : Nat) :
    StationRes :=
  let sf := saturate (shearAt b inf snap.items st)
  let bm := saturate (momentAt b inf snap.items st)
  let l := limitsAt lim snap.settings.limitSet st
  let sfL := signLimit sf.1 l.sfPos l.sfNeg
  let bmL := signLimit bm.1 l.bmPos l.bmNeg
  { sf := sf.1
    sfSat := sf.2
    sfPm := stressPerMille sf.1 sfL
    sfCls := stressClass sf.1 sf.2 (reached snap.items (fun i => (coefOf inf i st).fS)) sfL snap.settings.warn
    bm := bm.1
    bmSat := bm.2
    bmPm := stressPerMille bm.1 bmL
    bmCls := stressClass bm.1 bm.2 (reached snap.items (fun i => (coefOf inf i st).fM)) bmL snap.settings.warn }

/-- The displacement before saturation (R71). -/
def rawDisplacement (b : BaseRecord) (items : List ItemSnap) : Int := b.delta0 + itemSum items (fun _ _ => 1)

/-- One quantity interpolated between two points (R72). -/
def between (d d0 d1 v0 v1 : Int) : Int := v0 + truncDiv ((d - d0) * (v1 - v0)) (d1 - d0)

/-- The three quantities between or at points, given that the displacement is not below the first point (R72). -/
def hydroWithin : List HydroPoint → Int → Int × Int × Int
  | [], _ => (0, 0, 1)
  | [p], _ => (p.mean, p.lcb, p.mtc)
  | p :: q :: rest, d =>
    if d < q.delta then
      (between d p.delta q.delta p.mean q.mean, between d p.delta q.delta p.lcb q.lcb,
        between d p.delta q.delta p.mtc q.mtc)
    else hydroWithin (q :: rest) d

/-- Mean draught, LCB and MTC at a displacement (R72). -/
def hydroAt (table : List HydroPoint) (d : Int) : Int × Int × Int :=
  match table with
  | [] => (0, 0, 1)
  | p :: _ => if d < p.delta then (p.mean, p.lcb, p.mtc) else hydroWithin table d

/-- Whether a displacement lies beyond the last point (R72). -/
def beyondRange (table : List HydroPoint) (d : Int) : Bool :=
  match table.getLast? with
  | some p => p.delta < d
  | none => true

/-- The trim before its clamp (R73). -/
def rawTrim (delta lcb mtc tm : Int) : Int := roundDiv (delta * lcb - tm) mtc

/-- Whether some item is INDEFINITE (R74, R75). -/
def anyIndefinite (items : List ItemSnap) : Bool := items.any (fun i => i.cls == .indefinite)

/-- The first indefinite item (R76). -/
def firstIndefinite (items : List ItemSnap) : Option Nat := items.findIdx? (fun i => i.cls == .indefinite)

/-- The degraded flag (R76). -/
def degradedFlag (items : List ItemSnap) : Bool := items.any (fun i => i.cls == .degraded || i.unsure)

/-- The overall class: the highest of the station classes, the draught class and the trim class (R76). -/
def overallOf (l : List StationRes) (draught trim : CondClass) : CondClass :=
  (highestClass (l.map (fun r => r.sfCls.higher r.bmCls))).higher (draught.higher trim)

/-- The result of an evaluation whose hull tables are valid (R67 to R76). -/
def stagesResult (b : BaseRecord) (inf : List (List Coef)) (lim : LimitSets) (hydro : List HydroPoint)
    (number : Nat) (snap : Snapshot) : EvalResult :=
  let c := snap.settings
  let raw := rawDisplacement b snap.items
  let delta := if Config.maxDisplacement < raw then Config.maxDisplacement else raw
  let h := hydroAt hydro delta
  let tm := b.tm0 + itemSum snap.items (fun _ it => it.lever)
  let trim0 := rawTrim delta h.2.1 h.2.2 tm
  let trim := clampInt (-Config.maxTrim) Config.maxTrim trim0
  let fore := h.1 - truncDiv trim 2
  let aft := fore + trim
  let ind := anyIndefinite snap.items
  let stations := (List.range b.nsta).map (stationResult b inf lim snap)
  let dc := draughtClass (decide (Config.maxDisplacement < raw) || beyondRange hydro delta) ind fore aft h.1
    c.maxDraught c.margin
  let tc := trimClass (decide (trim0 < -Config.maxTrim ∨ Config.maxTrim < trim0)) ind trim c.trimMin c.trimMax
  { number := number
    cycle := snap.cycle
    limitSet := c.limitSet
    delta := delta
    mean := h.1
    fore := fore
    aft := aft
    trim := trim
    stations := stations
    draughtCls := dc
    trimCls := tc
    overall := overallOf stations dc tc
    degraded := degradedFlag snap.items
    firstIndef := firstIndefinite snap.items }

/-- A station of the invalid-table result (R78). -/
def invalidStation : StationRes := ⟨0, false, 0, .indefinite, 0, false, 0, .indefinite⟩

/-- The invalid-table result (R78). -/
def invalidResult (base : Option BaseRecord) (number : Nat) (snap : Snapshot) : EvalResult where
  number := number
  cycle := snap.cycle
  limitSet := snap.settings.limitSet
  delta := 0
  mean := 0
  fore := 0
  aft := 0
  trim := 0
  stations := List.replicate ((base.map BaseRecord.nsta).getD Config.stations) invalidStation
  draughtCls := .indefinite
  trimCls := .indefinite
  overall := .indefinite
  degraded := degradedFlag snap.items
  firstIndef := firstIndefinite snap.items

/-- The result of an evaluation (R56, R67 to R78). -/
def evaluate (tab : Tables) (number : Nat) (snap : Snapshot) : EvalResult :=
  match snap.tablesValid, tab.base, tab.influence, tab.limits, tab.hydro with
  | true, some b, some inf, some lim, some hydro => stagesResult b inf lim hydro number snap
  | _, _, _, _, _ => invalidResult tab.base number snap

/-- The mismatch flag of a CURRENT evaluation (R77); clear for the invalid-table result (R78). -/
def mismatchFlag (snap : Snapshot) (r : EvalResult) : Bool :=
  match snap.measured.mean with
  | some m =>
    snap.tablesValid && !anyIndefinite snap.items && decide (snap.settings.mismatchTol < ((m : Int) - r.mean).natAbs)
  | none => false

/-! ## The engine -/

/-- The request the engine takes next: CURRENT, STEP, ORDER in that order (R62). -/
def nextRequest (h : HullState) : Option EvalKind :=
  if h.currentFlag then some .current
  else
    match h.stepFlag, h.orderFlag with
    | some r, _ => some (.step r)
    | none, some r => some (.order r)
    | none, none => none

/-- Taking a request clears its flag (R62). -/
def clearFlag (k : EvalKind) (h : HullState) : HullState :=
  match k with
  | .current => { h with currentFlag := false }
  | .step _ => { h with stepFlag := none }
  | .order _ => { h with orderFlag := none }

/-- The place that waits with the ORDER flag waits from here on with the engine (R173). -/
def placesTaken (k : EvalKind) (l : List Place) : List Place :=
  match k with
  | .order _ => l.map (fun p => if p.state = .onFlag then { p with state := .onEngine } else p)
  | _ => l

/-- An evaluation begins: its flag clears, it takes its snapshot and the next evaluation number (R62, R63, R65). -/
def beginEvaluation (k : EvalKind) (s : State) : State :=
  let run : Running := ⟨k, s.hull.counter, snapshotNow k s, s.start.sweep == .complete⟩
  { s with
    hull := { clearFlag k s.hull with engine := some run, counter := (s.hull.counter + 1) % 65536 }
    console := { s.console with places := placesTaken k s.console.places } }

/-- The ORDER projection's REPLY is placed in the place kept for it (R82). -/
def answerProject (r : EvalResult) (s : State) : State :=
  { s with console := { s.console with
      places := s.console.places.map (fun p =>
        if p.state = .onEngine then { p with state := .ready .accepted (.project r) } else p) } }

/-- A PROJECT that the ORDER flag held is answered BUSY, its place replaced by a later one (R61). -/
def answerReplaced (s : State) : State :=
  { s with console := { s.console with
      places := s.console.places.map (fun p =>
        if p.state = .onFlag then { p with state := .ready .busy .none } else p) } }

end Sys2Proof.Machine
end

