-- ==== Sys2Proof/Machine/PumpOps.lean ====
section
/-! DEFINITION. The Pump Unit's operations that do not call the Plan Unit (spec/05_pumps_valves_and_the_manifold.md):
posting commands (R89), the request queue and the arbiter (R87, R88, R90), stop requests (R96), and the two sides of a
release (R86). -/

namespace Sys2Proof.Machine

open Sys2Proof

/-- Post a command to the actuator command queue, with its place in the record of postings (R89, R168). A command
whose output no valid table gives reaches no output and is not posted (R103). -/
def postCommand (watch : Option Nat) (out : Option OutputRef) (cmd : ActCommand) (s : State) : State :=
  match out with
  | none => s
  | some o =>
    if s.line.queue.length < Config.commandQueue then
      { s with
        line := { s.line with queue := s.line.queue ++ [.pump o cmd] }
        pump := { s.pump with postings := s.pump.postings ++ [⟨watch⟩] } }
    else s

/-- Postings of a state that a pump leaves set nothing any more (R89). -/
def unwatch (p : Nat) (s : State) : State :=
  { s with pump := { s.pump with
      postings := s.pump.postings.map (fun q => if q.watch = some p then ⟨none⟩ else q) } }

/-- The command of a stage of the service sequence, and the output it goes to (R89). -/
def stageCommand (s : State) (p t : Nat) : PumpStage → Option (Option OutputRef × ActCommand)
  | .opening => some (valveOutput s t, .openValve)
  | .starting => some (starterOutput s p, .start)
  | .stopping => some (starterOutput s p, .stop)
  | .closing => some (valveOutput s t, .closeValve)
  | _ => none

/-- A pump enters a stage that has a command: command placed clear, counter 0, the command posted (R89). -/
def enterStage (p t : Nat) (stage : PumpStage) (s : State) : State :=
  let s := unwatch p (setPump p { pumpRec s p with stage := stage, counter := 0, placed := false } s)
  match stageCommand s p t stage with
  | some (out, cmd) => postCommand (some p) out cmd s
  | none => s

/-- A PUMP entry has been placed: the oldest posting leaves the record, and command placed becomes set when it was the
posting of a pump's present state (R89). -/
def reportPlaced (s : State) : State :=
  match s.pump.postings with
  | [] => s
  | q :: rest =>
    let s := { s with pump := { s.pump with postings := rest } }
    match q.watch with
    | some p => setPump p { pumpRec s p with placed := true } s
    | none => s

/-- The arbiter may act: Tank Table and Actuator Map are both valid (R88). -/
def arbiterMayAct (s : State) : Bool := s.tables.tank.isSome && s.tables.actuator.isSome

/-- A grant: the pairing, the entry out of the queue, OPENING with OPEN posted (R86, R90). -/
def grant (p : Nat) (e : ReqEntry) (s : State) : State :=
  let s := { s with pump := { s.pump with queue := removeFirst (fun x => x.tank == e.tank) s.pump.queue } }
  let s := setPump p { pumpRec s p with tank := some e.tank, job := some (e.ctx, e.step), trouble := false, clean := false } s
  let s := setTank e.tank { tankRec s e.tank with serving := some p } s
  enterStage p e.tank .opening s

/-- The arbiter considers one pump: an IDLE pump takes the oldest entry it can reach (R88). -/
def considerPump (p : Nat) (s : State) : State :=
  if (pumpRec s p).stage = .idle then
    match s.pump.queue.find? (fun e => reaches s e.tank p) with
    | some e => grant p e s
    | none => s
  else s

/-- The pump arbiter acts (R88). -/
def arbiter (s : State) : State :=
  if arbiterMayAct s then (List.range Config.pumps).foldl (fun s p => considerPump p s) s else s

/-- Post an entry to the pump request queue; the arbiter acts when one has joined (R87, R88). -/
def requestPump (e : ReqEntry) (s : State) : State :=
  if s.pump.queue.any (fun x => x.tank == e.tank) then s
  else if (tankRec s e.tank).serving.isSome then s
  else if s.pump.queue.length < Config.requestQueue then
    arbiter { s with pump := { s.pump with queue := s.pump.queue ++ [e] } }
  else s

/-- A stop request as it finds a pump serving its tank (R96). -/
def stopPump (p t : Nat) (s : State) : State :=
  match (pumpRec s p).stage with
  | .opening => enterStage p t .closing s
  | .starting => enterStage p t .stopping s
  | .running => enterStage p t .stopping s
  | _ => s

/-- A stop request for a tank (R96). -/
def stopRequest (t : Nat) (s : State) : State :=
  if s.pump.queue.any (fun x => x.tank == t) then
    { s with pump := { s.pump with queue := removeFirst (fun x => x.tank == t) s.pump.queue } }
  else
    match (tankRec s t).serving with
    | some p => stopPump p t s
    | none => s

/-- Both sides of a release, the pump taking a stage without a command (R86). -/
def unpair (p t : Nat) (stage : PumpStage) (clean : Bool) (s : State) : State :=
  let s := unwatch p (setPump p { pumpRec s p with stage := stage, tank := none, job := none, clean := clean } s)
  setTank t { tankRec s t with serving := none } s

end Sys2Proof.Machine
end

