-- ==== Sys2Proof/Machine/Reports.lean ====
section
/-! DEFINITION. The contents of the reports the Report Unit builds (spec/08_port_reports.md): ALERT (R148), CONDITION
with its window maxima (R151, R152), PROGRESS (R154), READY and IDENT (R189); the periodic counters (R153, R155); and
the giving of reports to the transmitter (R146, R147). -/

namespace Sys2Proof.Machine

open Sys2Proof

/-! ## ALERT -/

/-- The class compared for a station: the higher of its SF and BM class; INDEFINITE for a station absent (R148). -/
def stationClass (l : List StationRes) (s : Nat) : CondClass :=
  match l[s]? with
  | some r => r.sfCls.higher r.bmCls
  | none => .indefinite

/-- The deepest of the computed draughts (R148). -/
def deepest (r : EvalResult) : Int := max r.fore (max r.aft r.mean)

/-- The draught per mille of an ALERT (R148). -/
def draughtPerMille (r : EvalResult) (maxDraught : Int) : Nat :=
  let d := deepest r
  if d ≤ 0 then 0
  else if maxDraught = 0 then Config.maxPerMille
  else min (truncDiv (d * 1000) maxDraught).toNat Config.maxPerMille

/-- An ALERT at its first posting (R148). -/
def alertOf (subject : Nat) (old new : CondClass) (number : Nat) (v1 v2 : Option Int) (p1 p2 : Option Nat) :
    AlertReport :=
  ⟨subject, old, new, old.higher new, number, v1, v2, p1, p2⟩

/-- The ALERT of a station of the new record (R148). -/
def stationAlert (old new : EvalResult) (s : Nat) : Option AlertReport :=
  match new.stations[s]? with
  | none => none
  | some r =>
    let o := stationClass old.stations s
    let n := r.sfCls.higher r.bmCls
    if o = n then none else some (alertOf s o n new.number (some r.sf) (some r.bm) (some r.sfPm) (some r.bmPm))

/-- An ALERT when two classes differ. -/
def alertWhen (subject : Nat) (old new : CondClass) (number : Nat) (v1 : Option Int) (p1 : Option Nat) :
    Option AlertReport :=
  if old = new then none else some (alertOf subject old new number v1 none p1 none)

/-- The ALERTs of a completion, in increasing order of subject (R148). -/
def alertsOf (old : EvalResult) (new : CondRecord) : List AlertReport :=
  let n := new.res
  (List.range n.stations.length).filterMap (stationAlert old n) ++
    (alertWhen 24 old.draughtCls n.draughtCls n.number (some (deepest n))
      (some (draughtPerMille n new.maxDraught))).toList ++
    (alertWhen 25 old.trimCls n.trimCls n.number (some n.trim) none).toList ++
    (alertWhen 26 old.overall n.overall n.number none none).toList

/-- The Report Unit takes a CURRENT completion: ALERTs in RUN (R148). -/
def reportHandOn (old : EvalResult) (new : CondRecord) (s : State) : State :=
  if s.start.phase = .run then (alertsOf old new).foldl (fun s a => post (.alert a) s) s else s

/-! ## CONDITION -/

/-- The highest per mille with its station, the lower-numbered station of equals (R152). -/
def windowMax (pm : StationRes → Nat) (l : List StationRes) (w : Window) : Option (Nat × Nat) :=
  (List.range l.length).foldl (fun best s =>
    if w.first ≤ s ∧ s < w.first + w.count then
      match l[s]?, best with
      | some r, none => some (pm r, s)
      | some r, some (b, at') => if b < pm r then some (pm r, s) else some (b, at')
      | none, b => b
    else best) none

/-- The windows in force: the setting, or one window over the whole station list (R152). -/
def windowsNow (s : State) (l : List StationRes) : List Window := s.settings.windows.getD [⟨0, l.length⟩]

/-- A CONDITION report of the Condition Record as it stands (R151, R152). -/
def conditionReport (s : State) : ConditionReport :=
  let r := conditionResult s
  { present := s.hull.condition.isSome
    res := r
    measured := (s.hull.condition.map CondRecord.measured).getD noMeasured
    mismatch := (s.hull.condition.map CondRecord.mismatch).getD false
    windows := (windowsNow s r.stations).map (fun w =>
      ⟨windowMax StationRes.sfPm r.stations w, windowMax StationRes.bmPm r.stations w⟩) }

/-! ## PROGRESS -/

/-- The shortfall of a tank entry (R154). -/
def shortfall (s : State) (e : PlanEntry) : Nat :=
  match e.action with
  | .discharge => (tankRec s e.tank).mass - e.target
  | .fill => e.target - (tankRec s e.tank).mass

/-- The shortfall of a step: the entries not done of the current step while it is to run, every entry of a later
WAITING step, nothing of any other (R154). -/
def stepShortfall (s : State) (index j : Nat) (p : PlanStep) (r : StepRec) : Nat :=
  if j < index then 0
  else if j = index then
    match r.state with
    | .done | .skipped => 0
    | _ => ((p.entries.zip r.done).map (fun e => if e.2 then 0 else shortfall s e.1)).sum
  else if r.state = .waiting then (p.entries.map (shortfall s)).sum
  else 0

/-- The total ballast remaining (R154). -/
def remainingBallast (s : State) (c : CtxRec) : Nat :=
  match c.plan with
  | none => 0
  | some p =>
    if c.state = .complete ∨ c.state = .empty then 0
    else ((List.range p.steps.length).map (fun j =>
      match p.steps[j]?, c.steps[j]? with
      | some ps, some r => stepShortfall s c.index j ps r
      | _, _ => 0)).sum

/-- A tank entry of a PROGRESS report (R154). -/
def progressEntry (s : State) (e : PlanEntry) (done : Bool) : ProgressEntry :=
  let r := tankRec s e.tank
  ⟨e.tank, e.action, e.target, r.mass, r.cls, r.rate, done, r.serving⟩

/-- The plan part and the tank entries of a PROGRESS report (R154). -/
def progressPlan (s : State) (c : CtxRec) : Option ProgressPlan × List ProgressEntry :=
  match c.plan with
  | none => (none, [])
  | some p =>
    match p.steps[c.index]?, c.steps[c.index]? with
    | some ps, some r =>
      (some ⟨p.steps.length, c.index, r.state⟩, (ps.entries.zip r.done).map (fun e => progressEntry s e.1 e.2))
    | _, _ => (none, [])

/-- A PROGRESS report of a context as it stands (R154). -/
def progressReport (s : State) (c : Ctx) : ProgressReport :=
  let r := ctxRec s c
  let pl := progressPlan s r
  { ctx := c
    state := r.state
    designated := s.plan.designated == c
    resumable := r.resumable
    plan := pl.1
    entries := pl.2
    remaining := remainingBallast s r
    final := r.state == .complete
    exchange :=
      match s.plan.exchange with
      | some x => if x.outgoing = c then some ⟨x.cause, x.served.length⟩ else none
      | none => none
    cycle := s.line.lastClosed }

/-- Post a PROGRESS report for a context (R155). -/
def postProgress (c : Ctx) (s : State) : State := post (.progress (progressReport s c)) s

/-- What R110 watches of a context: its state, its current step index, and its step states with their hold reasons. -/
def ctxFace (s : State) (c : Ctx) : CtxState × Nat × List StepState :=
  let r := ctxRec s c
  (r.state, r.index, r.steps.map StepRec.state)

/-- Do some work of the Plan Unit, then post a PROGRESS report for each context that it changed (R110; log entry 11),
context A's before context B's (DESIGN CHOICE, log entry 56). -/
def withProgress (work : State → State) (s : State) : State :=
  let n := work s
  let n := if ctxFace s .a = ctxFace n .a then n else postProgress .a n
  if ctxFace s .b = ctxFace n .b then n else postProgress .b n

/-! ## READY and IDENT -/

/-- Post the READY report of the new Condition Record (R189). -/
def postReady (s : State) : State := post (.ready ⟨conditionResult s, s.line.lastClosed⟩) s

/-! ## The periodic counters (R153, R155) -/

/-- Whether the condition counter reaches the period at this close (R153). -/
def conditionDue (s : State) : Bool :=
  announced s && s.settings.conditionPeriod ≤ bump 255 s.report.conditionCount

/-- The condition counter at a cycle close (R153). -/
def conditionClose (s : State) : State :=
  if !announced s then s
  else if s.settings.conditionPeriod ≤ bump 255 s.report.conditionCount then
    post (.condition (conditionReport s)) { s with report := { s.report with conditionCount := 0 } }
  else { s with report := { s.report with conditionCount := bump 255 s.report.conditionCount } }

/-- Whether the designated context is ACTIVE or PAUSED. -/
def designatedRuns (s : State) : Bool :=
  let c := (ctxRec s s.plan.designated).state
  c == .active || c == .paused

/-- Whether the progress counter reaches the period at this close (R155). -/
def progressDue (s : State) : Bool :=
  announced s && designatedRuns s && s.settings.progressPeriod ≤ bump 255 s.report.progressCount

/-- The progress counter at a cycle close (R155). -/
def progressClose (s : State) : State :=
  if !announced s then s
  else if !designatedRuns s then { s with report := { s.report with progressCount := 0 } }
  else if s.settings.progressPeriod ≤ bump 255 s.report.progressCount then
    postProgress s.plan.designated { s with report := { s.report with progressCount := 0 } }
  else { s with report := { s.report with progressCount := bump 255 s.report.progressCount } }

/-- Every entry becomes eligible at a cycle close (R147). -/
def makeEligible (s : State) : State :=
  { s with report := { s.report with queue := s.report.queue.map (fun e => { e with eligible := true }) } }

/-- Entries whose report owed flag is set are posted again at a cycle close (R183), in list order (DESIGN CHOICE, log
entry 56). -/
def postOwed (s : State) : State :=
  (s.fault.list.filter FaultEntry.owed).foldl (fun s e => postFault e.code e.subject s) s

/-! ## Giving reports to the transmitter (R146, R147) -/

/-- The lowest class number among the eligible entries (R146). -/
def firstClass (q : List ReportEntry) : Nat := (q.filter ReportEntry.eligible).foldl (fun m e => min m e.key.cls) 5

/-- The entry the Report Unit gives: of the lowest class number present among the eligible, the oldest (R146). -/
def nextReport (q : List ReportEntry) : Option ReportEntry :=
  q.find? (fun e => e.eligible && e.key.cls == firstClass q)

/-- The queue after an entry has been given: removed, and an IDENT or READY with transmissions to come placed again at
the tail, not eligible (R146, R147). -/
def queueAfterGiving (e : ReportEntry) (q : List ReportEntry) : List ReportEntry :=
  let rest := removeFirst (fun x => x.key == e.key) q
  if 1 < e.remaining then rest ++ [⟨e.report, false, e.remaining - 1⟩] else rest

end Sys2Proof.Machine
end

