-- ==== Sys2Proof/Machine/Tables.lean ====
section
/-! DEFINITION. The stored tables (R188, R196): each table's image read into its content with the structural check of
its own rule (R2, R18, R38, R52 to R55, R83, R161), the comparisons between tables (R18, R83), and the directory
(R188, R193, R196). -/

namespace Sys2Proof.Machine

open Sys2Proof

/-- The fixed length of a table, for table 8 the largest (R196). -/
def tableSize : Nat → Nat
  | 0 => 16
  | 1 => 60
  | 2 => 1056
  | 3 => 6912
  | 4 => 24
  | 5 => 203
  | 6 => 10944
  | 7 => 576
  | 8 => 353
  | 9 => 8
  | _ => 0

/-- The `i`th entry of `size` bytes, the entries beginning at `start`. -/
def entryAt (bytes : List Byte) (start size i : Nat) : List Byte := field bytes (start + size * i) size

/-- Read `n` entries, none when any of them is refused. -/
def readEntries {α : Type} (bytes : List Byte) (start size n : Nat) (f : List Byte → Option α) : Option (List α) :=
  (List.range n).mapM (fun i => f (entryAt bytes start size i))

/-- A value kept when a check holds. -/
def keepIf {α : Type} (b : Bool) (a : α) : Option α := if b then some a else none

/-- Whether a value lies in a range. -/
def inRange (lo hi v : Int) : Bool := lo ≤ v && v ≤ hi

/-! ## Ship identity and Line Map -/

/-- Table 0 (R196). -/
def readIdentity (bytes : List Byte) : Option (List Byte) := keepIf (bytes.length == 16) bytes

/-- A node kind's code, 0 being NONE (R194). -/
def nodeKindOf : Nat → Option NodeKind
  | 1 => some .gauge
  | 2 => some .draught
  | 3 => some .actuator
  | _ => none

/-- Whether a count lies in its kind's range (R161). -/
def countOk (k : NodeKind) (n : Nat) : Bool :=
  1 ≤ n && n ≤ (match k with
    | .gauge => 4
    | .draught => 2
    | .actuator => 8)

/-- An entry of the Line Map; some none is NONE (R161). -/
def readLineMapEntry (e : List Byte) : Option (Option LineMapEntry) :=
  let k := fieldNat e 0 1
  let n := fieldNat e 1 1
  if k = 0 then some none
  else
    match nodeKindOf k with
    | some kind => if countOk kind n then some (some ⟨kind, n⟩) else none
    | none => none

/-- Table 1 (R161). -/
def readLineMap (bytes : List Byte) : Option (List (Option LineMapEntry)) :=
  if bytes.length = 60 then readEntries bytes 0 2 30 readLineMapEntry else none

/-! ## Channel Table and Tank Table -/

/-- A binding's code (R194). -/
def bindingOf (n : Nat) : Option Binding :=
  if n < 64 then some (.tank n .primary)
  else if n < 128 then some (.tank (n - 64) .secondary)
  else if n = 128 then some (.mark .fore)
  else if n = 129 then some (.mark .aft)
  else if n = 130 then some (.mark .midPort)
  else if n = 131 then some (.mark .midStbd)
  else none

/-- An entry of the Channel Table, in range or unused (R1, R196). -/
def readChannelEntry (e : List Byte) : Option ChannelEntry :=
  let c : ChannelEntry :=
    ⟨fieldNat e 0 1, fieldNat e 1 1, bindingOf (fieldNat e 2 1), fieldNat e 3 2, fieldNat e 5 2, fieldInt e 7 2,
      fieldNat e 9 2⟩
  if c.node = 0 then some ⟨0, 0, none, 0, 0, 0, 0⟩
  else
    keepIf (c.node ≤ 30 && c.index ≤ 3 && c.binding.isSome && c.hi ≤ 65534 && c.lo < c.hi &&
      inRange (-2000) 2000 c.offset && 1 ≤ c.scale) c

/-- The set conditions of R2. -/
def channelsDistinct (l : List ChannelEntry) : Bool :=
  let used := l.filter (fun e => e.node != 0)
  allDistinct (used.map (fun e => (e.node, e.index))) && allDistinct (used.map ChannelEntry.binding)

/-- Table 2 (R2). -/
def readChannelTable (bytes : List Byte) : Option (List ChannelEntry) :=
  if bytes.length = 1056 then
    match readEntries bytes 0 11 96 readChannelEntry with
    | some l => keepIf (channelsDistinct l) l
    | none => none
  else none

/-- A sounding point (R196). -/
def readPoint (e : List Byte) : SoundingPoint := ⟨fieldNat e 0 2, fieldNat e 2 4⟩

/-- Soundings strictly increase and volumes do not decrease (R18). -/
def pointsRise : List SoundingPoint → Bool
  | [] => true
  | [_] => true
  | p :: q :: rest => p.sounding < q.sounding && p.volume ≤ q.volume && pointsRise (q :: rest)

/-- The sounding points of an entry pass R17 and R18. -/
def pointsOk (l : List SoundingPoint) : Bool :=
  2 ≤ l.length && l.length ≤ 16 && l.all (fun p => p.sounding ≤ 60000 && p.volume ≤ 1000000) &&
    ((l.head?.map SoundingPoint.sounding) == some 0) && pointsRise l

/-- The pumps of a reach set byte (R196). -/
def reachOf (n : Nat) : List Nat := (List.range Config.pumps).filter (fun p => n.testBit p)

/-- A channel field of the Tank Table, 0xFF being none (R196). -/
def channelField (n : Nat) : Option Nat := if n = 255 then none else some n

/-- Whether an optional channel lies in range (R17). -/
def channelOk : Option Nat → Bool
  | none => true
  | some c => c < Config.channels

/-- An entry of the Tank Table, in range or unused (R17, R18, R196). A reach set byte that names a pump above 3 is
refused (log entry 42). -/
def readTankEntry (e : List Byte) : Option TankFix :=
  let f : TankFix :=
    { primary := channelField (fieldNat e 0 1)
      secondary := channelField (fieldNat e 1 1)
      trimCoef := fieldInt e 2 2
      tolerance := fieldNat e 4 2
      reach := reachOf (fieldNat e 6 1)
      valve := ⟨fieldNat e 7 1, fieldNat e 8 1⟩
      lever := fieldInt e 9 2
      points := (List.range (fieldNat e 11 1)).map (fun i => readPoint (entryAt e 12 6 i)) }
  if f.primary.isNone then some ⟨none, none, 0, 0, [], ⟨0, 0⟩, 0, []⟩
  else
    keepIf (channelOk f.primary && channelOk f.secondary && f.secondary != f.primary &&
      inRange (-500) 500 f.trimCoef && f.tolerance ≤ 1000 && fieldNat e 6 1 < 16 &&
      inRange 1 30 f.valve.node && f.valve.output ≤ 7 && inRange (-30000) 30000 f.lever && pointsOk f.points) f

/-- The set conditions of R18. -/
def tanksDistinct (l : List TankFix) : Bool :=
  let used := l.filter (fun f => f.primary.isSome)
  allDistinct (used.flatMap (fun f => f.primary.toList ++ f.secondary.toList)) &&
    allDistinct (used.map TankFix.valve)

/-- Table 3 (R18). -/
def readTankTable (bytes : List Byte) : Option (List TankFix) :=
  if bytes.length = 6912 then
    match readEntries bytes 0 108 64 readTankEntry with
    | some l => keepIf (tanksDistinct l) l
    | none => none
  else none

/-! ## Hold levers and hull tables -/

/-- Table 4 (R38). -/
def readLevers (bytes : List Byte) : Option (List Int) :=
  if bytes.length = 24 then
    readEntries bytes 0 2 12 (fun e => keepIf (inRange (-30000) 30000 (readInt e)) (readInt e))
  else none

/-- Whether a base shear or moment lies in range (R52). -/
def stressOk (v : Int) : Bool := inRange (-Config.maxStress) Config.maxStress v

/-- Table 5 (R52). -/
def readBase (bytes : List Byte) : Option BaseRecord :=
  if bytes.length = 203 then
    let b : BaseRecord :=
      { nsta := fieldNat bytes 0 1
        delta0 := fieldNat bytes 1 4
        tm0 := fieldInt bytes 5 6
        sf0 := (List.range 24).map (fun i => readInt (entryAt bytes 11 4 i))
        bm0 := (List.range 24).map (fun i => readInt (entryAt bytes 107 4 i)) }
    keepIf (inRange 1 24 b.nsta && inRange 1 2000000 b.delta0 &&
      inRange (-1000000000000) 1000000000000 b.tm0 && b.sf0.all stressOk && b.bm0.all stressOk) b
  else none

/-- A coefficient pair (R53). -/
def readCoef (e : List Byte) : Option Coef :=
  keepIf (inRange (-65536) 65536 (fieldInt e 0 4)) ⟨fieldInt e 0 4, fieldInt e 4 2⟩

/-- Table 6, item by item (R53). -/
def readInfluence (bytes : List Byte) : Option (List (List Coef)) :=
  if bytes.length = 10944 then readEntries bytes 0 144 76 (fun row => readEntries row 0 6 24 readCoef) else none

/-- Whether a limit lies in range (R54). -/
def limitOk (n : Nat) : Bool := 1 ≤ n && n ≤ 8388607

/-- The limits of a station (R54). -/
def readStationLimits (e : List Byte) : Option StationLimits :=
  let l : StationLimits := ⟨fieldNat e 0 3, fieldNat e 3 3, fieldNat e 6 3, fieldNat e 9 3⟩
  keepIf (limitOk l.sfPos && limitOk l.sfNeg && limitOk l.bmPos && limitOk l.bmNeg) l

/-- Table 7 (R54). -/
def readLimits (bytes : List Byte) : Option LimitSets :=
  if bytes.length = 576 then
    match readEntries bytes 0 12 24 readStationLimits, readEntries bytes 288 12 24 readStationLimits with
    | some h, some s => some ⟨h, s⟩
    | _, _ => none
  else none

/-- A point of the hydrostatic table (R55). -/
def readHydroPoint (e : List Byte) : Option HydroPoint :=
  let p : HydroPoint := ⟨fieldNat e 0 4, fieldNat e 4 2, fieldInt e 6 2, fieldNat e 8 3⟩
  keepIf (inRange 1 30000000 p.delta && inRange 0 30000 p.mean && inRange (-30000) 30000 p.lcb &&
    inRange 1 16777215 p.mtc) p

/-- Displacements strictly increase (R55). -/
def deltasRise : List HydroPoint → Bool
  | [] => true
  | [_] => true
  | p :: q :: rest => p.delta < q.delta && deltasRise (q :: rest)

/-- Table 8 (R55). -/
def readHydro (bytes : List Byte) : Option (List HydroPoint) :=
  let n := fieldNat bytes 0 1
  if 2 ≤ n ∧ n ≤ 32 ∧ bytes.length = 1 + 11 * n then
    match readEntries bytes 1 11 n readHydroPoint with
    | some l => keepIf (deltasRise l) l
    | none => none
  else none

/-! ## Actuator Map -/

/-- An entry of the Actuator Map (R83). -/
def readOutput (e : List Byte) : Option OutputRef :=
  keepIf (inRange 1 30 (fieldNat e 0 1) && fieldNat e 1 1 ≤ 7) ⟨fieldNat e 0 1, fieldNat e 1 1⟩

/-- Table 9, its comparison with the Tank Table apart (R83). -/
def readActuators (bytes : List Byte) : Option (List OutputRef) :=
  if bytes.length = 8 then
    match readEntries bytes 0 2 4 readOutput with
    | some l => keepIf (allDistinct l) l
    | none => none
  else none

/-! ## Comparisons between tables -/

/-- Whether a channel of the Channel Table is in use and bound to a tank with a role (R18). -/
def boundTo (chan : List ChannelEntry) (c t : Nat) (role : Role) : Bool :=
  match chan[c]? with
  | some e => e.node != 0 && e.binding == some (.tank t role)
  | none => false

/-- Whether a tank's channel fields agree with the Channel Table (R18). -/
def tankAgrees (chan : List ChannelEntry) (t : Nat) (f : TankFix) : Bool :=
  match f.primary with
  | none => true
  | some p =>
    boundTo chan p t .primary &&
      (match f.secondary with
       | none => true
       | some q => boundTo chan q t .secondary)

/-- Whether every entry in use agrees (R18). -/
def tablesAgree (chan : List ChannelEntry) (tank : List TankFix) : Bool :=
  (tank.mapIdx (fun t f => tankAgrees chan t f)).all id

/-- Whether no pump's output is a tank's valve output (R83). -/
def outputsApart (tank : List TankFix) (act : List OutputRef) : Bool :=
  tank.all (fun f => f.primary.isNone || !act.contains f.valve)

/-! ## The directory -/

/-- What a directory copy says: its sequence number and the check value of each table, absent for none (R196). -/
structure Directory where
  seq : Nat
  checks : List (Option Nat)
deriving DecidableEq, Repr

/-- A directory that holds no value for any table, as neither copy passing leaves it (R188). -/
def Directory.empty : Directory := ⟨0, List.replicate 10 none⟩

/-- A check value of a directory copy (R196). -/
def readCheck (e : List Byte) : Option Nat := if fieldNat e 0 1 = 0 then none else some (fieldNat e 1 2)

/-- Read a directory copy; none when its own check fails (R188, R196). -/
def readDirectory (bytes : List Byte) : Option Directory :=
  if bytes.length = 36 ∧ fieldNat bytes 34 2 = (crc16 (bytes.take 34)).toNat then
    some ⟨fieldNat bytes 0 4, (List.range 10).map (fun t => readCheck (entryAt bytes 4 3 t))⟩
  else none

/-- The bytes of a check value. -/
def writeCheck : Option Nat → List Byte
  | none => be 1 0 ++ be 2 0
  | some v => be 1 1 ++ be 2 v

/-- The 36 bytes of a directory copy (R196). -/
def writeDirectory (d : Directory) : List Byte :=
  let body := be 4 d.seq ++ d.checks.flatMap writeCheck
  body ++ be 2 (crc16 body).toNat

/-- Whether the second of two passing copies is the newer (R196). -/
def secondNewer (a b : Directory) : Bool :=
  let d := (((b.seq : Int) - a.seq) % 4294967296).toNat
  1 ≤ d && d ≤ 2147483647

/-- Whether the directory in force is the second copy; none when neither passes (R188, R196). -/
def secondInForce (st : Store) : Option Bool :=
  match readDirectory st.dirA, readDirectory st.dirB with
  | some a, some b => some (secondNewer a b)
  | some _, none => some false
  | none, some _ => some true
  | none, none => none

/-- The directory SELF-CHECK takes (R188, R196). -/
def directoryInForce (st : Store) : Directory :=
  match secondInForce st with
  | some true => (readDirectory st.dirB).getD Directory.empty
  | some false => (readDirectory st.dirA).getD Directory.empty
  | none => Directory.empty

/-- The stored image of a table. -/
def imageOf (st : Store) (code : Nat) : List Byte := st.images[code]?.getD []

/-- Whether a table is graded valid (R188). -/
def tableValid (t : Tables) : Nat → Bool
  | 0 => t.identity.isSome
  | 1 => t.lineMap.isSome
  | 2 => t.channel.isSome
  | 3 => t.tank.isSome
  | 4 => t.lever.isSome
  | 5 => t.base.isSome
  | 6 => t.influence.isSome
  | 7 => t.limits.isSome
  | 8 => t.hydro.isSome
  | 9 => t.actuator.isSome
  | _ => false

/-- The check values an IDENT carries: the directory's value of each valid table (R189). -/
def identChecks (s : State) : List (Option Nat) :=
  let d := directoryInForce s.store
  (List.range Config.tableCodes).map (fun c => if tableValid s.tables c then (d.checks[c]?).getD none else none)

end Sys2Proof.Machine
end

