-- ==== Sys2Proof/Machine/PlanOps.lean ====
section
/-! DEFINITION. The Plan Unit (spec/06_ballast_plans_and_step_order.md, spec/07_plan_contexts_and_exchange.md): gates
and STEP requests (R111 to R113), running and finishing steps (R114 to R116), holds (R117 to R119), the exchange (R132
to R136), the auto-exchange (R138, R139), the confirmation window (R125), plan checks (R108) and plan state at starts
(R127, R128, R141). -/

namespace Sys2Proof.Machine

open Sys2Proof

/-! ## Reading a context -/

/-- The plan step at an index. -/
def planStep (r : CtxRec) (i : Nat) : Option PlanStep := r.plan.bind (fun p => p.steps[i]?)

/-- The state of the step at an index. -/
def stepState (r : CtxRec) (i : Nat) : Option StepState := (r.steps[i]?).map StepRec.state

/-- The tank entries of the step at an index. -/
def stepTanks (r : CtxRec) (i : Nat) : List PlanEntry := ((planStep r i).map PlanStep.entries).getD []

/-- The record of the designated context (R129). -/
def designatedRec (s : State) : CtxRec := ctxRec s s.plan.designated

/-- The state of the designated context's current step. -/
def currentState (s : State) : Option StepState := stepState (designatedRec s) (designatedRec s).index

/-- The tank entries of the designated context's current step. -/
def currentTanks (s : State) : List PlanEntry := stepTanks (designatedRec s) (designatedRec s).index

/-- Whether the current step of the designated context is RUNNING. -/
def stepRunning (s : State) : Bool := currentState s == some .running

/-- Whether a step state is HELD, for whatever reason. -/
def isHeld : Option StepState → Bool
  | some (.held _) => true
  | _ => false

/-- Whether the named step is the RUNNING current step of the designated context (R91, R119). -/
def jobRuns (s : State) (c : Ctx) (i : Nat) : Bool :=
  s.plan.designated == c && (designatedRec s).index == i && stepRunning s

/-- Whether no tank of a list of entries has a serving pump (R112). -/
def tanksFree (s : State) (l : List PlanEntry) : Bool := l.all (fun e => (tankRec s e.tank).serving.isNone)

/-- Whether a hold gate is met as the Hold Table stands (R112). -/
def gateMet (s : State) (g : Option HoldGate) : Bool :=
  match g with
  | none => true
  | some g => g.minMass ≤ (holdRec s g.hold).mass

/-- Whether a class is at or below a margin (R113). -/
def withinMargin (c : CondClass) : Margin → Bool
  | .clear => c == .clear
  | .warning => c.admits

/-! ## Changing a context -/

/-- Give a step a state. -/
def CtxRec.putStep (r : CtxRec) (i : Nat) (st : StepState) : CtxRec :=
  { r with steps := r.steps.modify i (fun x => { x with state := st }) }

/-- Write the service action and target of a tank (R34). -/
def putService (t : Nat) (v : Option Service) (s : State) : State := setTank t { tankRec s t with service := v } s

/-- Write the service fields of the tanks of a list of entries (R114). -/
def writeService (l : List PlanEntry) (s : State) : State :=
  l.foldl (fun s e => putService e.tank (some ⟨e.action, e.target⟩) s) s

/-- Make the service fields of the tanks of a list of entries absent (R114). -/
def clearService (l : List PlanEntry) (s : State) : State := l.foldl (fun s e => putService e.tank none s) s

/-- A stop request for each tank entry, in entry order (R117). -/
def stopAll (l : List PlanEntry) (s : State) : State := l.foldl (fun s e => stopRequest e.tank s) s

/-- The gates of R112 for the designated context's current step. -/
def requestDue (s : State) : Bool :=
  let r := designatedRec s
  match planStep r r.index with
  | none => false
  | some p =>
    r.state == .active && s.plan.exchange.isNone && currentState s == some .gated && !r.asked &&
      (overallClass s).admits && gateMet s p.gate && tanksFree s p.entries

/-- Make a STEP request when the gates hold (R112, R60). -/
def judgeRequest (s : State) : State :=
  if requestDue s then
    let r := designatedRec s
    let subs := (currentTanks s).map (fun e => (⟨e.tank, e.target⟩ : Substitution))
    setCtx s.plan.designated { r with asked := true }
      { s with hull := { s.hull with stepFlag := some ⟨s.plan.designated, r.index, subs⟩ } }
  else s

/-- The current step of the designated context becomes GATED, and R112 is applied at once (R111). -/
def gateStep (s : State) : State :=
  let r := designatedRec s
  let fresh := currentState s == some .waiting
  let r' := { r with
    asked := false
    steps := r.steps.modify r.index
      (fun x => ⟨.gated, if fresh then x.done.map (fun _ => false) else x.done⟩) }
  judgeRequest (clearService (stepTanks r r.index) (setCtx s.plan.designated r' s))

/-- A step boundary of the designated context (R138). -/
def boundary (s : State) : State :=
  if s.plan.autoPending then { s with plan := { s.plan with autoPending := false, autoEffective := true } } else s

/-- The first step after the current one that is not SKIPPED (R116). -/
def nextStep (r : CtxRec) : Option Nat :=
  (List.range r.steps.length).find? (fun j => r.index < j && stepState r j != some .skipped)

/-- The current step has become DONE or SKIPPED: the index advances, or the context becomes COMPLETE (R116). -/
def advance (s : State) : State :=
  let r := designatedRec s
  match nextStep r with
  | some j =>
    let s := setCtx s.plan.designated { r with index := j } s
    if r.state = .active then gateStep s else s
  | none => setCtx s.plan.designated { r with state := .complete } s

/-- Every tank entry of the designated context's current step is done. -/
def allDone (s : State) : Bool :=
  let r := designatedRec s
  match r.steps[r.index]? with
  | some x => x.done.all id
  | none => false

/-- The current step becomes DONE when it is RUNNING, every tank is done and none is served (R115). -/
def judgeDone (s : State) : State :=
  if stepRunning s && allDone s && tanksFree s (currentTanks s) then
    let r := designatedRec s
    advance (boundary (clearService (currentTanks s) (setCtx s.plan.designated (r.putStep r.index .done) s)))
  else s

/-- Post the tanks whose done mark is clear to the pump request queue, in entry order (R114). -/
def postTanks (c : Ctx) (i : Nat) (l : List (PlanEntry × Bool)) (s : State) : State :=
  l.foldl (fun s e => if e.2 then s else requestPump ⟨e.1.tank, c, i⟩ s) s

/-- The current step of the designated context enters RUNNING (R114, R115, R138). -/
def enterRunning (s : State) : State :=
  let c := s.plan.designated
  let r := designatedRec s
  let entries := currentTanks s
  let marks := ((r.steps[r.index]?).map StepRec.done).getD []
  let r' := { r.putStep r.index .running with confirmCount := 0 }
  let s := boundary (setCtx c r' (writeService entries s))
  judgeDone (postTanks c r.index (entries.zip marks) s)

/-- Whether the Plan Unit takes a STEP completion (R113). -/
def takesCompletion (s : State) (p : StepRecord) : Bool :=
  let r := designatedRec s
  s.plan.designated == p.ctx && r.state == .active && r.index == p.step && currentState s == some .gated && r.asked

/-- The four conditions under which a completion admits its step (R113). No table is among them: with the table INVALID
that R189 names, the four fail by themselves, but for the Ship identity and the Actuator Map, which none of them reads
(log entry 62). -/
def admitsStep (s : State) (p : StepRecord) : Bool :=
  let r := designatedRec s
  match planStep r r.index with
  | none => false
  | some st =>
    withinMargin p.res.overall st.margin && (overallClass s).admits && gateMet s st.gate &&
      tanksFree s st.entries

/-- The Plan Unit takes a STEP completion: the step enters RUNNING, or stays GATED and waits for the next event at
which R112 is judged (R113). -/
def planStepCompletion (p : StepRecord) (s : State) : State :=
  if takesCompletion s p then
    let s := setCtx s.plan.designated { designatedRec s with asked := false } s
    if admitsStep s p then enterRunning s else s
  else s

/-- Hold the RUNNING current step of the designated context (R117). -/
def holdStep (why : HoldReason) (s : State) : State :=
  if stepRunning s then
    let r := designatedRec s
    stopAll (stepTanks r r.index) (setCtx s.plan.designated (r.putStep r.index (.held why)) s)
  else s

/-- The Pump Unit asks for a hold of the step its record names (R119). -/
def askHold (job : Option (Ctx × Nat)) (why : HoldReason) (s : State) : State :=
  match job with
  | some (c, i) => if jobRuns s c i then holdStep why s else s
  | none => s

/-- A tank done report sets the done mark of the tank's entry in the named step (R115). -/
def markDone (job : Option (Ctx × Nat)) (t : Nat) (s : State) : State :=
  match job with
  | none => s
  | some (c, i) =>
    let r := ctxRec s c
    let at' := (stepTanks r i).findIdx (fun e => e.tank == t)
    setCtx c { r with steps := r.steps.modify i (fun x => { x with done := x.done.modify at' (fun _ => true) }) } s

/-! ## The exchange -/

/-- A context starts as at PLAN-START from LOADED: the first step not SKIPPED becomes GATED, COMPLETE if none is
(R120, R136). The context is the designated one. -/
def startLoaded (s : State) : State :=
  let r := designatedRec s
  match (List.range r.steps.length).find? (fun j => stepState r j != some .skipped) with
  | some j => gateStep (setCtx s.plan.designated { r with state := .active, index := j } s)
  | none => setCtx s.plan.designated { r with state := .complete } s

/-- The incoming context, now designated, starts (R136). -/
def startIncoming (s : State) : State :=
  let r := designatedRec s
  match r.state with
  | .loaded => startLoaded s
  | .suspended =>
    let st := currentState s
    let active := r.resumable
    let s := setCtx s.plan.designated
      { r with state := if active then .active else .paused, resumable := false } s
    if active && (st == some (.held .exchange) || st == some .waiting) then gateStep s
    else if isHeld st then writeService (currentTanks s) s
    else s
  | _ => s

/-- The outgoing context at the completion of its exchange (R135). -/
def outgoingAfter (x : ExchangeRec) (r : CtxRec) : CtxRec :=
  match x.outState with
  | .active => { r with state := .suspended, resumable := x.clean }
  | .paused => { r with state := .suspended, resumable := false }
  | _ => { r with resumable := false }

/-- The exchange completes (R134). R112 is judged for the incoming step with the exchange no longer in flight
(log entry 12). -/
def completeExchange (x : ExchangeRec) (s : State) : State :=
  let r := ctxRec s x.outgoing
  let s := setCtx x.outgoing (outgoingAfter x r) s
  let s := clearService (stepTanks r r.index) s
  let s := { s with
    plan := { s.plan with designated := otherCtx x.outgoing, exchange := none }
    report := { s.report with progressCount := 0 } }
  startIncoming s

/-- The pumps whose record names a context (R132). -/
def servedBy (s : State) (c : Ctx) : List Nat :=
  (List.range Config.pumps).filter (fun p =>
    match (pumpRec s p).job with
    | some (d, _) => d == c
    | none => false)

/-- The outgoing context's current step at the beginning of an exchange (R132). The service fields of a GATED step that is
held are written, as of every HELD current step (R114; log entry 57). -/
def exchangeHold (s : State) : State :=
  let r := designatedRec s
  match currentState s with
  | some .running => holdStep .exchange s
  | some .gated =>
    writeService (stepTanks r r.index)
      (setCtx s.plan.designated { r.putStep r.index (.held .exchange) with asked := false } s)
  | _ => s

/-- An exchange begins, and completes at once when no pump serves the outgoing context (R132, R142). -/
def beginExchange (cause : ExchangeCause) (s : State) : State :=
  let c := s.plan.designated
  let x : ExchangeRec := ⟨c, (designatedRec s).state, servedBy s c, true, cause⟩
  let s := exchangeHold { s with plan := { s.plan with exchange := some x } }
  let s := postProgress c s
  if x.served.isEmpty then completeExchange x s else s

/-- A release as the exchange in flight takes it (R134). -/
def exchangeRelease (p : Nat) (clean : Bool) (s : State) : State :=
  match s.plan.exchange with
  | none => s
  | some x =>
    if x.served.contains p then
      let x := { x with served := x.served.filter (fun q => q != p), clean := x.clean && clean }
      let s := { s with plan := { s.plan with exchange := some x } }
      if x.served.isEmpty then completeExchange x s else s
    else s

/-- The Plan Unit is told of a release (R86): the exchange, then, for a tank of the current step, R115 and R112. -/
def planRelease (p t : Nat) (clean : Bool) (s : State) : State :=
  let s := exchangeRelease p clean s
  if (currentTanks s).any (fun e => e.tank == t) then judgeRequest (judgeDone s) else s

/-- Whether a context can be the incoming one (R131, R139). -/
def canComeIn (s : State) : Bool :=
  let st := (ctxRec s (otherCtx s.plan.designated)).state
  st == .loaded || st == .suspended

/-- Whether an OVER completion begins an exchange (R139). -/
def autoDue (s : State) : Bool :=
  s.plan.autoEffective && stepRunning s && s.plan.exchange.isNone && canComeIn s

/-- A step HELD (CONDITION) of an ACTIVE designated context becomes GATED, but not during an exchange (R118, R133). -/
def returnFromHold (s : State) : State :=
  if (designatedRec s).state == .active && s.plan.exchange.isNone && currentState s == some (.held .condition) then
    gateStep s
  else s

/-- The Plan Unit takes a CURRENT completion (R118, R139), then judges R112. -/
def planHandOn (s : State) : State :=
  let cls := overallClass s
  let s :=
    if cls = .over ∧ autoDue s then
      beginExchange .auto { s with plan := { s.plan with autoEffective := false } }
    else if cls.admits then returnFromHold s
    else holdStep .condition s
  judgeRequest s

/-! ## The confirmation window (R125) -/

/-- The count at which the window opens (R125). -/
def windowOpens (p : Plan) : Nat := p.period * (100 - p.share) / 100

/-- Whether the confirm count reaches the confirm period at this close (R125). -/
def confirmDue (s : State) : Bool :=
  let r := designatedRec s
  match r.plan with
  | some p => stepRunning s && p.period ≤ r.confirmCount + 1
  | none => false

/-- The confirm count at a cycle close (R125). -/
def confirmClose (s : State) : State :=
  let r := designatedRec s
  match r.plan with
  | some p =>
    if stepRunning s then
      let s := setCtx s.plan.designated { r with confirmCount := bump 600 r.confirmCount } s
      if p.period ≤ r.confirmCount + 1 then holdStep .confirmLate s else s
    else s
  | none => s

/-! ## Plan checks (R108) -/

/-- Where a plan is at fault: a step and an entry of it, either absent (R108). -/
structure PlanFault where
  step : Option Nat
  entry : Option Nat
deriving DecidableEq, Repr

/-- Whether a tank entry, the `seen` ones before it, passes R108. -/
def rawEntryOk (s : State) (seen : List RawEntry) (e : RawEntry) : Bool :=
  e.tank < Config.tanks && tankInUse s e.tank &&
    (match tankFix s e.tank with
     | some f => !f.reach.isEmpty
     | none => false) &&
    e.target ≤ capacity s e.tank && e.action ≤ 1 && !seen.any (fun x => x.tank == e.tank)

/-- The position of the first entry at fault (R108). -/
def entryFault (s : State) : List RawEntry → List RawEntry → Option Nat
  | _, [] => none
  | seen, e :: rest => if rawEntryOk s seen e then entryFault s (seen ++ [e]) rest else some seen.length

/-- Whether a hold gate's values are in range (R108). -/
def gateOk : Option HoldGate → Bool
  | none => true
  | some g => g.hold < Config.holds && g.minMass ≤ Config.maxHoldMass

/-- What is at fault in a step: none, or the entry's position, absent when no entry is at fault (R108). -/
def stepFault (s : State) (r : RawStep) : Option (Option Nat) :=
  if r.entries.isEmpty || Config.stepEntries < r.entries.length then some none
  else
    match entryFault s [] r.entries with
    | some j => some (some j)
    | none => if r.margin ≤ 1 && gateOk r.gate then none else some none

/-- The first step at fault (R108). -/
def firstStepFault (s : State) : Nat → List RawStep → Option PlanFault
  | _, [] => none
  | i, r :: rest =>
    match stepFault s r with
    | some e => some ⟨some i, e⟩
    | none => firstStepFault s (i + 1) rest

/-- Whether a plan's header is in range (R108). -/
def headerOk (period share : Nat) : Bool :=
  10 ≤ period && period ≤ 600 && (share == 25 || share == 50 || share == 75 || share == 100)

/-- The load checks of R108: none when the plan passes. -/
def planFault (s : State) (w : WorkPlan) : Option PlanFault :=
  if w.steps.isEmpty then some ⟨none, none⟩
  else
    match firstStepFault s 0 w.steps with
    | some f => some f
    | none => if headerOk w.period w.share then none else some ⟨none, none⟩

/-- A checked tank entry. -/
def entryOfRaw (e : RawEntry) : PlanEntry := ⟨e.tank, if e.action = 0 then .discharge else .fill, e.target⟩

/-- A checked step. -/
def stepOfRaw (r : RawStep) : PlanStep :=
  ⟨r.entries.map entryOfRaw, r.gate, if r.margin = 0 then .clear else .warning⟩

/-- A checked plan. -/
def planOfWork (w : WorkPlan) : Plan := ⟨w.period, w.share, w.steps.map stepOfRaw⟩

/-- A held plan as R108 checks it again (R128). -/
def workOfPlan (p : Plan) : WorkPlan :=
  ⟨p.period, p.share, p.steps.map (fun st =>
    ⟨if st.margin = .clear then 0 else 1, st.gate,
      st.entries.map (fun e => ⟨e.tank, if e.action = .discharge then 0 else 1, e.target⟩)⟩)⟩

/-- A context with a plan newly installed (R109). -/
def installedRec (p : Plan) : CtxRec :=
  { state := .loaded
    plan := some p
    index := 0
    steps := p.steps.map (fun st => ⟨.waiting, st.entries.map (fun _ => false)⟩)
    asked := false
    confirmCount := 0
    resumable := false }

/-- The working plan of a context (R107). -/
def workPlan (s : State) (c : Ctx) : Option WorkPlan :=
  match c with
  | .a => s.plan.workA
  | .b => s.plan.workB

/-- Write the working plan of a context. -/
def setWork (c : Ctx) (w : Option WorkPlan) (s : State) : State :=
  match c with
  | .a => { s with plan := { s.plan with workA := w } }
  | .b => { s with plan := { s.plan with workB := w } }

/-! ## Plan state at starts (R127, R128, R141) -/

/-- A step at a SUPPLY or ORDERED reset (R127). -/
def resetStep (x : StepRec) : StepRec :=
  if x.state = .running ∨ x.state = .gated then { x with state := .held .restart } else x

/-- A context at a SUPPLY or ORDERED reset (R127, R130). -/
def resetCtx (r : CtxRec) : CtxRec :=
  { r with
    state := if r.state = .active then .paused else r.state
    steps := r.steps.map resetStep
    asked := false
    confirmCount := 0
    resumable := false }

/-- The Plan Unit at a SUPPLY or ORDERED reset (R127, R129, R141). -/
def retainedPlan (p : PlanState) : PlanState :=
  { p with
    ctxA := resetCtx p.ctxA
    ctxB := resetCtx p.ctxB
    workA := none
    workB := none
    autoPending := false
    autoEffective := false
    exchange := none }

/-- The Plan Unit at the restart after a SETUP-END write (R128, R141). -/
def restartPlan (tankTableWritten : Bool) (p : PlanState) : PlanState :=
  { p with
    ctxA := { p.ctxA with asked := false }
    ctxB := { p.ctxB with asked := false }
    workA := none
    workB := none
    recheckOwed := p.recheckOwed || tankTableWritten }

/-- The re-check of one context's plan (R128). -/
def recheckCtx (c : Ctx) (s : State) : State :=
  match (ctxRec s c).plan with
  | none => s
  | some p => if (planFault s (workOfPlan p)).isSome then postProgress c (setCtx c CtxRec.reset s) else s

/-- The re-check at the end of a SELF-CHECK, when it is owed and the Tank Table is valid (R128). -/
def recheckPlans (s : State) : State :=
  if s.plan.recheckOwed && s.tables.tank.isSome then
    let s := recheckCtx .b (recheckCtx .a s)
    { s with plan := { s.plan with recheckOwed := false } }
  else s

/-- The service fields of a HELD current step are written again at the end of SELF-CHECK (R127, R128). -/
def restoreService (s : State) : State :=
  if isHeld (currentState s) then writeService (currentTanks s) s else s

end Sys2Proof.Machine
end

