-- ==== Sys2Proof/Machine/PumpService.lean ====
section
/-! DEFINITION. The service sequence of the Pump Unit (spec/05_pumps_valves_and_the_manifold.md): feedback (R84, R91 to
R95), failures and valve faults (R97, R98), timeouts, the flow check (R99), targets reached (R93), and the return of a
FAILED pump (R102). -/

namespace Sys2Proof.Machine

open Sys2Proof

/-- The valve feedback a code gives; a code R84 does not accept is FAULT (R84, R194). -/
def valveFeedbackOf : Nat → ValveFeedback
  | 1 => .opened
  | 2 => .closed
  | 3 => .moving
  | _ => .fault

/-- The starter feedback a code gives; a code R84 does not accept is FAULT (R84, R194). -/
def starterFeedbackOf : Nat → StarterFeedback
  | 4 => .running
  | 5 => .stopped
  | _ => .fault

/-- Set a pump's trouble mark (R85). -/
def markTrouble (p : Nat) (s : State) : State := setPump p { pumpRec s p with trouble := true } s

/-- Whether the tank is an entry of the step its pump names, in the plan the context now holds, and that step is the
RUNNING current step of the designated context (R91, R97). -/
def tankRuns (s : State) (job : Option (Ctx × Nat)) (t : Nat) : Bool :=
  match job with
  | some (c, i) => jobRuns s c i && (currentTanks s).any (fun e => e.tank == t)
  | none => false

/-- The done mark of a tank in the designated context's current step. -/
def tankDone (s : State) (t : Nat) : Bool :=
  let r := designatedRec s
  match r.steps[r.index]? with
  | some x => ((currentTanks s).zip x.done).any (fun e => e.1.tank == t && e.2)
  | none => false

/-- A counted OPEN feedback in OPENING: START, or CLOSING as at a stop request, or the pump waits for the supply
(R91). -/
def tryStart (p t : Nat) (s : State) : State :=
  if !tankRuns s (pumpRec s p).job t then enterStage p t .closing s
  else if s.pump.supplyLow then s
  else enterStage p t .starting s

/-- The valve travel timeout, or a counted FAULT, in OPENING (R91). -/
def openingFault (p t : Nat) (s : State) : State :=
  let job := (pumpRec s p).job
  let s := askHold job .valve (tellActive .valveFault t (markTrouble p s))
  stopPump p t s

/-- A valve fault of a drawing pump (R98). -/
def drawingFault (p t : Nat) (s : State) : State :=
  let job := (pumpRec s p).job
  let s := askHold job .valve (tellActive .valveFault t (markTrouble p s))
  stopPump p t s

/-- The end of a service at CLOSING: the release, the Plan Unit told, the arbiter (R95, R86). -/
def endService (p t : Nat) (s : State) : State :=
  let clean := !(pumpRec s p).trouble
  arbiter (planRelease p t clean (unpair p t .idle clean s))

/-- A counted FAULT, or the valve travel timeout, in CLOSING (R95). -/
def closingFault (p t : Nat) (s : State) : State := endService p t (tellActive .valveFault t (markTrouble p s))

/-- A failure of a pump (R97). -/
def failPump (p t : Nat) (s : State) : State :=
  let job := (pumpRec s p).job
  let s := tellActive .pumpFailed p (markTrouble p s)
  let s := postCommand none (valveOutput s t) .closeValve (postCommand none (starterOutput s p) .stop s)
  let s := planRelease p t false (unpair p t .failed false s)
  match job with
  | some (c, i) => if tankRuns s job t && !tankDone s t then requestPump ⟨t, c, i⟩ s else s
  | none => s

/-- A flow window begins (R99). -/
def beginWindow (p t : Nat) (s : State) : State :=
  setPump p { pumpRec s p with counter := 0, startMass := (tankRec s t).mass } s

/-- A counted RUNNING feedback in STARTING (R92). -/
def beginRunning (p t : Nat) (s : State) : State :=
  beginWindow p t (setPump p { pumpRec s p with stage := .running } s)

/-- A counted valve feedback (R91 to R95). -/
def countedValve (p t : Nat) (f : ValveFeedback) (s : State) : State :=
  match (pumpRec s p).stage, f with
  | .opening, .opened => tryStart p t s
  | .opening, .fault => openingFault p t s
  | .starting, .closed => drawingFault p t s
  | .starting, .fault => drawingFault p t s
  | .running, .closed => drawingFault p t s
  | .running, .fault => drawingFault p t s
  | .closing, .closed => endService p t s
  | .closing, .fault => closingFault p t s
  | _, _ => s

/-- A counted starter feedback (R91 to R95). -/
def countedStarter (p t : Nat) (f : StarterFeedback) (s : State) : State :=
  match (pumpRec s p).stage, f with
  | .starting, .running => beginRunning p t s
  | .starting, .fault => failPump p t s
  | .running, .stopped => failPump p t s
  | .running, .fault => failPump p t s
  | .stopping, .stopped => enterStage p t .closing s
  | .stopping, .fault => failPump p t s
  | _, _ => s

/-- Feedback of a tank's suction valve: written, then taken by the pump that serves the tank when it counts (R84,
R89). -/
def valveReport (t : Nat) (f : ValveFeedback) (s : State) : State :=
  let s := setTank t { tankRec s t with valve := some f } s
  match (tankRec s t).serving with
  | some p => if (pumpRec s p).placed then countedValve p t f s else s
  | none => s

/-- Feedback of a pump's starter: written, then taken by the pump when it counts (R84, R89). -/
def starterReport (p : Nat) (f : StarterFeedback) (s : State) : State :=
  let s := setPump p { pumpRec s p with starter := some f } s
  match (pumpRec s p).tank with
  | some t => if (pumpRec s p).placed then countedStarter p t f s else s
  | none => s

/-- The tank whose suction valve an output drives (R17, R84). -/
def tankOfOutput (s : State) (o : OutputRef) : Option Nat :=
  (List.range Config.tanks).find? (fun t => valveOutput s t == some o)

/-- The pump whose starter an output drives (R83, R84). -/
def pumpOfOutput (s : State) (o : OutputRef) : Option Nat :=
  (List.range Config.pumps).find? (fun p => starterOutput s p == some o)

/-- One feedback value of an actuator node's frame (R84). -/
def takeFeedback (node output code : Nat) (s : State) : State :=
  match tankOfOutput s ⟨node, output⟩ with
  | some t => valveReport t (valveFeedbackOf code) s
  | none =>
    match pumpOfOutput s ⟨node, output⟩ with
    | some p => starterReport p (starterFeedbackOf code) s
    | none => s

/-- The feedback values of an actuator node's frame (R84), each taken whole, in output order (DESIGN CHOICE, log
entry 56). -/
def takeFeedbacks (node : Nat) : Nat → List Nat → State → State
  | _, [], s => s
  | o, code :: rest, s => takeFeedbacks node (o + 1) rest (takeFeedback node o code s)

/-- The flow check at the end of a flow window (R99). -/
def flowCheck (p t : Nat) (s : State) : State :=
  let r := tankRec s t
  let start := (pumpRec s p).startMass
  let moved : Bool :=
    match r.service with
    | some v =>
      match v.action with
      | .discharge => r.mass + s.settings.minFlow ≤ start
      | .fill => start + s.settings.minFlow ≤ r.mass
    | none => false
  if r.cls = .indefinite then beginWindow p t s
  else if moved then beginWindow p t s
  else askHold (pumpRec s p).job .noFlow s

/-- Whether a pump's phase counter rises at a cycle close (R89, R99, R100). -/
def counterRises (s : State) (p : Nat) : Bool :=
  let r := pumpRec s p
  match r.stage with
  | .opening => r.placed && !s.pump.supplyLow
  | .starting | .stopping | .closing => r.placed
  | .running => true
  | .idle | .failed => false

/-- The setting that a pump's phase counter runs to in its stage (R101). -/
def counterLimit (s : State) (p : Nat) : Nat :=
  match (pumpRec s p).stage with
  | .opening | .closing => s.settings.valveTimeout
  | .starting | .stopping => s.settings.pumpTimeout
  | _ => s.settings.flowWindow

/-- Whether a pump's counter reaches its limit at this close. -/
def counterDue (s : State) (p : Nat) : Bool :=
  counterRises s p && counterLimit s p ≤ bump 255 (pumpRec s p).counter

/-- What the expiry of a timeout, or the end of a flow window, does (R91, R92, R94, R95, R99). -/
def counterExpires (p t : Nat) (s : State) : State :=
  match (pumpRec s p).stage with
  | .opening => openingFault p t s
  | .closing => closingFault p t s
  | .starting | .stopping => failPump p t s
  | .running => flowCheck p t s
  | _ => s

/-- The phase counter of a pump at a cycle close (R89, R99, R101). -/
def pumpCount (p : Nat) (s : State) : State :=
  if counterRises s p then
    let due := counterDue s p
    let s := setPump p { pumpRec s p with counter := bump 255 (pumpRec s p).counter } s
    match (pumpRec s p).tank with
    | some t => if due then counterExpires p t s else s
    | none => s
  else s

/-- The Pump Unit's work at a cycle close, less the pumps taken ahead (log entry 6), the pumps in increasing order of
number (DESIGN CHOICE, log entry 56). -/
def pumpClose (s : State) : State :=
  (List.range Config.pumps).foldl (fun s p => unlessTaken (.pump p) (pumpCount p) s) s

/-- A sample conversion as the pump serving the tank takes it: the target reached in RUNNING (R93). -/
def sampleConverted (t : Nat) (s : State) : State :=
  let r := tankRec s t
  match r.serving, r.service with
  | some p, some v =>
    let reached : Bool := match v.action with
      | .discharge => r.mass ≤ v.target
      | .fill => v.target ≤ r.mass
    if (pumpRec s p).stage = .running ∧ reached then
      enterStage p t .stopping (markDone (pumpRec s p).job t s)
    else s
  | _, _ => s

/-- FAULT-CLEAR of PUMP-FAILED for a pump (R102). -/
def revivePump (p : Nat) (s : State) : State :=
  if (pumpRec s p).stage = .failed then
    arbiter (setPump p { pumpRec s p with stage := .idle, trouble := false } s)
  else s

end Sys2Proof.Machine
end

