-- ==== Sys2Proof/Machine/Line.lean ====
section
/-! DEFINITION. The Line Controller (spec/09_the_field_line.md): field-line frames (R194), the mark and the command
slot (R158, R159, R168), enumeration (R162 to R164), answers (R165), silence and breaks (R166, R167), forwarded frames
and ownership (R169, R170); and the entry to ANNOUNCE at the end of enumeration (R189). -/

namespace Sys2Proof.Machine

open Sys2Proof

/-! ## Frames -/

/-- A field-line frame with its CRC-8 (R194, R195). -/
def lineFrame (ty addr : Nat) (body : List Byte) : List Byte :=
  let bytes := be 1 ty ++ be 1 addr ++ body
  bytes ++ [crc8 bytes]

/-- The cycle mark (R159, R194). -/
def markFrame (cycle : Nat) : List Byte := lineFrame 1 0 (be 1 cycle)

/-- The code of a command (R194). -/
def ActCommand.code : ActCommand → Nat
  | .openValve => 1
  | .closeValve => 2
  | .start => 3
  | .stop => 4

/-- A command frame (R194). -/
def commandFrame (o : OutputRef) (c : ActCommand) : List Byte := lineFrame 2 o.node (be 1 o.output ++ be 1 c.code)

/-- UNASSIGN (R162). -/
def unassignFrame : List Byte := lineFrame 3 0 []

/-- ASSIGN of an address (R162). -/
def assignFrame (a : Nat) : List Byte := lineFrame 4 0 (be 1 a)

/-- A maintenance frame (R169, R194). -/
def maintenanceFrame (node : Nat) (bytes : List Byte) : List Byte := lineFrame 7 node (be 1 bytes.length ++ bytes)

/-- A field-line frame whose check agrees: its type, its address and its body. -/
structure LineFrame where
  ty : Nat
  addr : Nat
  body : List Byte
deriving DecidableEq, Repr

/-- Read a field-line frame; none when its CRC-8 fails (R165, R195). -/
def readLineFrame (bytes : List Byte) : Option LineFrame :=
  let covered := bytes.take (bytes.length - 1)
  if 3 ≤ bytes.length ∧ bytes.getLast? = some (crc8 covered) then
    some ⟨fieldNat covered 0 1, fieldNat covered 1 1, covered.drop 2⟩
  else none

/-! ## Addresses and outputs -/

/-- Addresses 1 to 30. -/
def addresses : List Nat := (List.range Config.nodes).map (· + 1)

/-- The addresses that have an answer slot: ACTIVE, SILENT or FOREIGN (R158). -/
def slotsNow (s : State) : List Nat := addresses.filter (fun a => (nodeRec s a).state != .absent)

/-- The safe sweep list: STOP for each pump, then CLOSE for each tank in use (R164). -/
def sweepList (s : State) : List SweepCommand :=
  (List.range Config.pumps).filterMap (fun p => (starterOutput s p).map (fun o => ⟨o, .stop⟩)) ++
    (List.range Config.tanks).filterMap (fun t => (valveOutput s t).map (fun o => ⟨o, .closeValve⟩))

/-- Fill the safe sweep list, replacing whatever it holds (R164). -/
def fillSweep (s : State) : State := { s with line := { s.line with sweep := sweepList s } }

/-- The Line Map's entry of an address; none for NONE and while the map is INVALID (R161). -/
def mapEntry (s : State) (a : Nat) : Option LineMapEntry :=
  match s.tables.lineMap with
  | some l => if a = 0 then none else (l[a - 1]?).getD none
  | none => none

/-! ## The start phases that follow enumeration (R189) -/

/-- The IDENT as it is posted (R189). -/
def identReport (s : State) : IdentReport :=
  ⟨s.start.supplySeen, s.start.orderedSeen, s.tables.identity, identChecks s, s.line.lastClosed⟩

/-- ANNOUNCE begins: IDENT posted, the channel grace, the report counters 0, the full sweep to come (R189, R13, R153,
R155). -/
def enterAnnounce (s : State) : State :=
  let s := { s with
    start := { s.start with phase := .announce, sweep := .awaitingMark }
    report := { s.report with conditionCount := 0, progressCount := 0 } }
  graceAges (post (.ident (identReport s)) s)

/-- The Start and Supply Unit is told that enumeration has ended (R189, R190). -/
def enumerationEnded (s : State) : State :=
  if s.start.setup then { s with start := { s.start with setupCloses := 0 } } else enterAnnounce s

/-! ## Enumeration -/

/-- Enumeration ends: LINE-BREAK when no address was assigned though the map names a node, then the Start and Supply
Unit is told (R164, R167; log entry 25). LINE-BREAK is told before ANNOUNCE is entered and IDENT posted; the spec gives
no order of the two (DESIGN CHOICE, log entry 56). -/
def endEnumeration (s : State) : State :=
  let s := { s with line := { s.line with enumeration := .ended } }
  let s := if (slotsNow s).isEmpty && addresses.any (fun a => (mapEntry s a).isSome) then tellActive .lineBreak 0 s
    else s
  enumerationEnded s

/-- Whether LINE-MAP-MISMATCH is to be raised; never while the Line Map is INVALID (R161, R163). -/
def mapMismatch (s : State) : Bool :=
  s.tables.lineMap.isSome &&
    addresses.any (fun a => (nodeRec s a).state == .foreign || ((mapEntry s a).isSome && (nodeRec s a).state == .absent))

/-- Enumeration stops giving addresses: the mismatch is judged and the safe sweep list filled; with an empty list
enumeration ends at once (R163, R164). -/
def stopAddressing (s : State) : State :=
  let s := if mapMismatch s then tellActive .lineMapMismatch 0 s else s
  let s := fillSweep s
  if s.line.sweep.isEmpty then endEnumeration s else { s with line := { s.line with enumeration := .sweeping } }

/-- The unanswered count as the close of this cycle leaves it (R162). -/
def unansweredAfter (s : State) (u : Nat) : Nat :=
  match s.line.assign with
  | .placed | .failed => u + 1
  | .none | .answered => u

/-- Whether this close is the one at which addresses stop being given (R162). -/
def addressingStops (s : State) : Bool :=
  match s.line.enumeration with
  | .giving a u => Config.nodes < a || Config.unansweredLimit ≤ unansweredAfter s u
  | _ => false

/-- The assignment slot of this cycle as the close takes it (R162). -/
def assignClose (s : State) : State :=
  match s.line.enumeration with
  | .giving a u =>
    let s' := { s with line := { s.line with enumeration := .giving a (unansweredAfter s u), assign := .none } }
    if addressingStops s then stopAddressing s' else s'
  | _ => { s with line := { s.line with assign := .none } }

/-- The entry that an ASSIGNED frame fills (R163). -/
def assignedRec (s : State) (a kindCode count : Nat) : NodeRec :=
  match nodeKindOf kindCode with
  | none => ⟨.foreign, none, none, 0⟩
  | some k =>
    let matches' : Bool :=
      match mapEntry s a with
      | some e => e.kind == k && e.count == count
      | none => false
    ⟨if matches' then .active else .foreign, some k, some count, 0⟩

/-- The frame of the assignment slot: it fills the entry of `a`, or the slot is spent (R162, R163). -/
def takeAssigned (bytes : List Byte) (s : State) : State :=
  match s.line.enumeration, s.line.assign with
  | .giving a _, .placed =>
    let spent := { s with line := { s.line with assign := .failed, slotAt := Config.nodes + 1 } }
    match readLineFrame bytes with
    | some f =>
      if f.ty = 5 ∧ f.addr = a ∧ f.body.length = 2 then
        let s := setNode a (assignedRec s a (fieldNat f.body 0 1) (fieldNat f.body 1 1)) s
        { s with line := { s.line with
            enumeration := .giving (a + 1) 0, assign := .answered, slotAt := Config.nodes + 1 } }
      else spent
    | none => spent
  | _, _ => s

/-! ## The mark and the command slot -/

/-- The cycle mark: it carries the cycle number, the period in force follows the setting, and a full sweep of ANNOUNCE
begins with it (R158, R159, R189). -/
def openCycle (s : State) : State :=
  { s with
    line := { s.line with
      part := .afterMark
      period := s.settings.linePeriod
      driven := [markFrame s.line.cycle] }
    start := { s.start with
      sweep := if s.start.phase = .announce ∧ s.start.sweep = .awaitingMark then .marked else s.start.sweep } }

/-- The frame of a queue entry. -/
def QueueEntry.frame : QueueEntry → List Byte
  | .pump o c => commandFrame o c
  | .forward node bytes => maintenanceFrame node bytes

/-- Whether an entry's origin is FORWARD. -/
def QueueEntry.isForward : QueueEntry → Bool
  | .pump _ _ => false
  | .forward _ _ => true

/-- The Pump Unit is told of each placed PUMP entry (R89, R168). -/
def reportEntries (l : List QueueEntry) (s : State) : State :=
  l.foldl (fun s e => if e.isForward then s else reportPlaced s) s

/-- The slot carries the next 4 commands of the safe sweep list; enumeration ends with the last of its sweep (R164). -/
def placeSweep (s : State) : State :=
  let out := s.line.sweep.take Config.slotCommands
  let rest := s.line.sweep.drop Config.slotCommands
  let s := { s with line := { s.line with sweep := rest, driven := out.map (fun c => commandFrame c.out c.command) } }
  if rest.isEmpty && s.line.enumeration == .sweeping then endEnumeration s else s

/-- The slot carries up to 4 entries of the actuator command queue (R168). -/
def placeQueue (s : State) : State :=
  let out := s.line.queue.take Config.slotCommands
  reportEntries out
    { s with line := { s.line with
        queue := s.line.queue.drop Config.slotCommands, driven := out.map QueueEntry.frame } }

/-- The command slot: the safe sweep, else UNASSIGN or ASSIGN, else the queue (R162, R164, R168). The answer slots of
the cycle are those of the entries as they now stand (R158). -/
def commandSlotWork (s : State) : State :=
  let s := { s with line := { s.line with
      part := .afterSlot, slots := slotsNow s, slotAt := 0, heard := [], assign := .none } }
  if !s.line.sweep.isEmpty then placeSweep s
  else
    match s.line.enumeration with
    | .unassignDue => { s with line := { s.line with enumeration := .giving 1 0, driven := [unassignFrame] } }
    | .giving a _ => { s with line := { s.line with assign := .placed, driven := [assignFrame a] } }
    | _ => placeQueue s

/-! ## Answers -/

/-- The bytes of one value in an answer of a kind; an absent kind is read as 2-byte raw values (R165, R194). -/
def valueWidth (k : Option NodeKind) : Nat := if k = some .actuator then 1 else 2

/-- The values of an answer's body, none when it fails the check of R165. -/
def answerValues (r : NodeRec) (body : List Byte) : Option (List Nat) :=
  let n := fieldNat body 0 1
  let w := valueWidth r.kind
  if n = r.count.getD n ∧ body.length = 1 + w * n then
    some ((List.range n).map (fun i => fieldNat body (1 + w * i) w))
  else none

/-- The values of a usable frame in an address's slot (R165). -/
def usableValues (s : State) (slot : Nat) (bytes : List Byte) : Option (List Nat) :=
  match readLineFrame bytes with
  | some f => if f.ty = 6 ∧ f.addr = slot then answerValues (nodeRec s slot) f.body else none
  | none => none

/-- The Line Controller's own part of a usable frame: the missed count 0, SILENT ended, LINE-BREAK ended (R165 to R167),
told in this order where both end (DESIGN CHOICE, log entry 56). -/
def lineHeard (slot : Nat) (s : State) : State :=
  let r := nodeRec s slot
  let s := setNode slot { r with missed := 0, state := if r.state = .silent then .active else r.state } s
  let s := if r.state = .silent then tellEnded .nodeSilent slot s else s
  if s.line.breakCount = Config.silentMisses then
    tellEnded .lineBreak 0 { s with line := { s.line with breakCount := 0 } }
  else s

/-- The Channel Unit's part: samples of an ACTIVE or SILENT GAUGE or DRAUGHT node, and the relay of every frame (R165,
R10). `st` is the entry's state as the frame found it. -/
def channelHeard (slot : Nat) (st : NodeState) (k : Option NodeKind) (values : List Nat) (s : State) : State :=
  let plain : SampleFrame := ⟨slot, s.line.cycle, values.map plainItem⟩
  match st, k with
  | .foreign, _ => relayFrame plain s
  | _, some .actuator => relayFrame plain s
  | _, some kind =>
    takeValues slot kind 0 values (relayFrame ⟨slot, s.line.cycle, sampleItems s slot kind 0 values⟩ s)
  | _, none => relayFrame plain s

/-- The Pump Unit's part: the feedback of an ACTIVE or SILENT ACTUATOR node (R84, R165). -/
def pumpHeard (slot : Nat) (st : NodeState) (k : Option NodeKind) (values : List Nat) (s : State) : State :=
  if st != .foreign && k == some .actuator then takeFeedbacks slot 0 values s else s

/-- One hand-on of a usable frame. -/
def frameWork (slot : Nat) (st : NodeState) (k : Option NodeKind) (values : List Nat) (w : FrameWork) (s : State) :
    State :=
  match w with
  | .line => lineHeard slot s
  | .channels => channelHeard slot st k values s
  | .pumps => pumpHeard slot st k values s

/-- The hand-ons of one frame. -/
def allFrameWork : List FrameWork := [.line, .channels, .pumps]

/-- A frame in an answer slot: discarded, or handed on in the world's order (R165; log entry 5). -/
def takeAnswer (slot : Nat) (bytes : List Byte) (order : List FrameWork) (s : State) : State :=
  let r := nodeRec s slot
  match usableValues s slot bytes with
  | some values =>
    let s := { s with line := { s.line with slotAt := slot, heard := slot :: s.line.heard } }
    (completeOrder allFrameWork order).foldl (fun s w => frameWork slot r.state r.kind values w s) s
  | none => { s with line := { s.line with slotAt := slot } }

/-! ## Silence and breaks -/

/-- Whether this close makes a node SILENT (R166). -/
def silentDue (a : Nat) (s : State) : Bool :=
  let r := nodeRec s a
  s.line.slots.contains a && !s.line.heard.contains a && s.line.enumeration == .ended && r.state == .active &&
    Config.silentMisses ≤ bump 255 r.missed

/-- The judgement of one entry at a cycle close (R166). -/
def judgeNode (a : Nat) (s : State) : State :=
  let r := nodeRec s a
  if s.line.slots.contains a && !s.line.heard.contains a then
    let n := { r with missed := bump 255 r.missed }
    if silentDue a s then tellActive .nodeSilent a (setNode a { n with state := .silent } s) else setNode a n s
  else s

/-- Whether the break count reaches 3 at this close (R167). -/
def breakDue (s : State) : Bool :=
  s.line.enumeration == .ended && !s.line.slots.isEmpty && s.line.heard.isEmpty && s.line.breakCount == 2

/-- The break count at a cycle close (R167). -/
def judgeBreak (s : State) : State :=
  if s.line.enumeration == .ended then
    if !s.line.heard.isEmpty then { s with line := { s.line with breakCount := 0 } }
    else if s.line.slots.isEmpty then s
    else
      let n := { s with line := { s.line with breakCount := bump 3 s.line.breakCount } }
      if breakDue s then tellActive .lineBreak 0 n else n
  else s

/-- The Line Controller's work at a cycle close, less what was taken ahead (R158, R162, R166, R167; log entry 6): the
entries in order of address, then the break count, then the assignment slot (DESIGN CHOICE, log entry 56). -/
def lineClose (s : State) : State :=
  let s := addresses.foldl (fun s a => unlessTaken (.node a) (judgeNode a) s) s
  unlessTaken .assign assignClose (unlessTaken .lineBreak judgeBreak s)

/-! ## Forwarded frames -/

/-- Whether an output is one of those whose node is owned (R170). -/
def outputOwned (s : State) (o : OutputRef) : Bool :=
  ((stepRunning s || isHeld (currentState s)) && (currentTanks s).any (fun e => valveOutput s e.tank == some o)) ||
    (List.range Config.pumps).any (fun p => (pumpRec s p).tank.isSome && starterOutput s p == some o)

/-- Whether a node is owned: an ACTUATOR node, not FOREIGN, with an output in service (R170). -/
def nodeOwned (s : State) (a : Nat) : Bool :=
  let r := nodeRec s a
  r.kind == some .actuator && r.state != .foreign && (List.range (r.count.getD 8)).any (fun o => outputOwned s ⟨a, o⟩)

/-- FORWARD entries queued (R168, R169). -/
def forwardCount (s : State) : Nat := (s.line.queue.filter QueueEntry.isForward).length

/-- The Line Controller takes a FORWARD (R169). -/
def takeForward (f : ForwardArgs) (s : State) : State × Answer :=
  if s.line.enumeration ≠ .ended then refuse .notInState s
  else if f.node = 0 ∨ Config.nodes < f.node then refuse .outOfRange s
  else if (nodeRec s f.node).state = .absent then refuse .notInState s
  else if nodeOwned s f.node then refuse .owned s
  else if Config.forwardEntries ≤ forwardCount s then refuse .queueFull s
  else
    let s := { s with line := { s.line with queue := s.line.queue ++ [.forward f.node f.bytes] } }
    (s, .now .accepted (.forward (forwardCount s)))

end Sys2Proof.Machine
end

