-- ==== Sys2Proof/Machine/StartOps.lean ====
section
/-! DEFINITION. The Start and Supply Unit's operations (spec/11_faults_supply_and_start_up.md): grading the tables at
the end of SELF-CHECK (R188), working tables (R191, R192), the SETUP-END write whole or cut short (R193), the restart
after it, the resets (R186, R187), and the Fault Unit's part of a sent FAULT report (R183). -/

namespace Sys2Proof.Machine

open Sys2Proof

/-! ## Grading (R188) -/

/-- The grading of one table: some read of it agreed with the directory, and its content passes its own rule (R188;
log entries 5 and 22). -/
def gradeTable {α : Type} (st : Store) (misreads : List Nat) (code : Nat) (read : List Byte → Option α) : Option α :=
  let img := imageOf st code
  if (misreads[code]?.getD 0) < 3 ∧ ((directoryInForce st).checks[code]?).getD none = some (crc16 img).toNat then
    read img
  else none

/-- The Actuator Map graded INVALID when it names a valve output of a valid Tank Table (R83, R188). -/
def gradeActuators (tank : Option (List TankFix)) (act : Option (List OutputRef)) : Option (List OutputRef) :=
  match tank, act with
  | some t, some a => if outputsApart t a then some a else none
  | _, a => a

/-- All ten tables as the end of a SELF-CHECK grades them (R188). -/
def gradeTables (st : Store) (misreads : List Nat) : Tables :=
  let tank := gradeTable st misreads 3 readTankTable
  { identity := gradeTable st misreads 0 readIdentity
    lineMap := gradeTable st misreads 1 readLineMap
    channel := gradeTable st misreads 2 readChannelTable
    tank := tank
    lever := gradeTable st misreads 4 readLevers
    base := gradeTable st misreads 5 readBase
    influence := gradeTable st misreads 6 readInfluence
    limits := gradeTable st misreads 7 readLimits
    hydro := gradeTable st misreads 8 readHydro
    actuator := gradeActuators tank (gradeTable st misreads 9 readActuators) }

/-- Whether a tank is mis-bound: both tables valid and its channels not agreed (R36). -/
def misBoundNow (t : Tables) (k : Nat) : Bool :=
  match t.tank, t.channel with
  | some tab, some chan =>
    match tab[k]? with
    | some f => !tankAgrees chan k f
    | none => false
  | _, _ => false

/-- Tell the Fault Unit how one table was graded; a mis-bound tank counts against table 3 (R188, R36). -/
def tellTable (code : Nat) (s : State) : State :=
  if !tableValid s.tables code || (code == 3 && (List.range Config.tanks).any (misBoundNow s.tables)) then
    tellActive .tableInvalid code s
  else makeGone .tableInvalid code s

/-- A tank as it takes its tables: a waiting density comes into force, GAUGE-DISAGREE ends, the dynamic part is taken
anew (R19, R36; log entries 10 and 27). -/
def takeTank (t : Nat) (s : State) : State :=
  let r := tankRec s t
  let s := match r.newDensity with
    | some d => setDensity t d s
    | none => s
  let s := if r.disagreement then tellEnded .gaugeDisagree t s else s
  setTank t (tankAtSelfCheck s t (misBoundNow s.tables t) r) s

/-- Every channel keeps its reset values while the Channel Table is INVALID (R3). -/
def resetUntabled (s : State) : State := if s.tables.channel.isNone then restartChannels s else s

/-- The end of SELF-CHECK (R188; log entry 27). After a restart POUR-GAP is not told again (R39), also where the restart
came before the SELF-CHECK of a reset had ended (DESIGN CHOICE, log entry 59). -/
def endSelfCheck (misreads : List Nat) (s : State) : State :=
  let restarted := s.start.restart
  let s := { s with tables := gradeTables s.store misreads }
  let s := resetUntabled ((List.range Config.tableCodes).foldl (fun s c => tellTable c s) s)
  let s := (List.range Config.tanks).foldl (fun s t => takeTank t s) s
  let s := if restarted then s else tellUnsureHolds s
  let s := restoreService (recheckPlans s)
  { s with
    start := { s.start with phase := .enumerate, restart := false }
    line := { s.line with enumeration := .unassignDue, assign := .none } }

/-! ## Working tables (R191) -/

/-- The stored tables, as they are graded: while SELF-CHECK runs the store may hold tables that it has not graded yet, and
they are judged as they stand there (R18, R193; log entry 48). -/
def storedTables (s : State) : Tables :=
  if s.start.phase = .selfCheck then gradeTables s.store [] else s.tables

/-- The Channel Table that will stand at the end of setup, none while INVALID (R18). -/
def standingChannels (s : State) : Option (List ChannelEntry) :=
  match (s.start.completed[2]?).getD none with
  | some b => readChannelTable b
  | none => (storedTables s).channel

/-- The Tank Table that will stand at the end of setup, none while INVALID (R2, R18, R83). -/
def standingTanks (s : State) : Option (List TankFix) :=
  match (s.start.completed[3]?).getD none with
  | some b => readTankTable b
  | none => (storedTables s).tank

/-- A comparison with a standing table, passed when that table is INVALID (R18, R83). -/
def against {α : Type} (standing : Option α) (check : α → Bool) : Bool :=
  match standing with
  | some a => check a
  | none => true

/-- The check of a completed table by its own rule and against the tables that will stand (R191). -/
def tableOk (s : State) (code : Nat) (b : List Byte) : Bool :=
  match code with
  | 0 => (readIdentity b).isSome
  | 1 => (readLineMap b).isSome
  | 2 => (readChannelTable b).any (fun c => against (standingTanks s) (tablesAgree c))
  | 3 => (readTankTable b).any (fun t => against (standingChannels s) (fun c => tablesAgree c t))
  | 4 => (readLevers b).isSome
  | 5 => (readBase b).isSome
  | 6 => (readInfluence b).isSome
  | 7 => (readLimits b).isSome
  | 8 => (readHydro b).isSome
  | 9 => (readActuators b).any (fun a => against (standingTanks s) (fun t => outputsApart t a))
  | _ => false

/-- The open working table is discarded (R191; log entry 18). -/
def discardOpen (s : State) : State := { s with start := { s.start with openTable := none, lastPart := none } }

/-- The last part completes the table, or refuses it (R191). -/
def finishTable (p : TablePart) (bytes : List Byte) (s : State) : State × Answer :=
  if (crc16 bytes).toNat = p.check ∧ tableOk s p.code bytes then
    accept { s with start := { s.start with
      openTable := none
      lastPart := some ⟨p.code, p.part⟩
      completed := s.start.completed.setIfInBounds p.code (some bytes) } }
  else refuse .badTable (discardOpen s)

/-- A part's bytes join those held (R191). -/
def addPart (p : TablePart) (held : List Byte) (s : State) : State × Answer :=
  let bytes := held ++ p.bytes
  if tableSize p.code < bytes.length then refuse .badTable (discardOpen s)
  else if p.last then finishTable p bytes s
  else accept { s with start := { s.start with openTable := some ⟨p.code, bytes⟩, lastPart := some ⟨p.code, p.part⟩ } }

/-- The Start and Supply Unit takes a TABLE-LOAD part (R191). -/
def takeTablePart (p : TablePart) (s : State) : State × Answer :=
  if !s.start.setup then refuse .notInState s
  else if Config.tableCodes ≤ p.code then refuse .outOfRange s
  else if p.part = 0 then addPart p [] s
  else if s.start.lastPart = some ⟨p.code, p.part⟩ then accept s
  else
    match s.start.openTable, s.start.lastPart with
    | some t, some l =>
      if t.code = p.code ∧ l.code = p.code ∧ p.part = l.part + 1 then addPart p t.bytes s else refuse .notInState s
    | _, _ => refuse .notInState s

/-! ## Reading tables back (R192) -/

/-- One part of a table, with the check value in the last part; none beyond the last part (R192; log entry 19). The check
value is that of the bytes read, also of a table that a reset tore and that no SELF-CHECK has graded since (DESIGN
CHOICE, log entry 66). -/
def tablePart (bytes : List Byte) (part : Nat) : Option ReplyBody :=
  let chunk := field bytes (part * Config.readPart) Config.readPart
  if chunk.isEmpty then none
  else
    some (.tableRead chunk
      (if bytes.length ≤ (part + 1) * Config.readPart then some (crc16 bytes).toNat else none))

/-- Answer a TABLE-READ with a part of a table (R192). -/
def answerPart (bytes : List Byte) (part : Nat) (s : State) : State × Answer :=
  match tablePart bytes part with
  | some b => (s, .now .accepted b)
  | none => refuse .outOfRange s

/-! ## The SETUP-END write (R193) -/

/-- The tables a SETUP-END write takes, in order of code (R193). -/
def completedTables (s : State) : List TableImage :=
  (List.range Config.tableCodes).filterMap
    (fun c => ((s.start.completed[c]?).getD none).map (fun b => (⟨c, b⟩ : TableImage)))

/-- The first `k` bytes of a write over what stood there (log entry 21). -/
def tear (k : Nat) (old new : List Byte) : List Byte := if new.length ≤ k then new else new.take k ++ old.drop k

/-- The first `k` bytes of the images of a write (R193). -/
def writeImages : Nat → List TableImage → Store → Store
  | _, [], st => st
  | k, t :: rest, st =>
    writeImages (k - t.bytes.length) rest
      { st with images := st.images.setIfInBounds t.code (tear k (imageOf st t.code) t.bytes) }

/-- The bytes of the images of a write. -/
def imageBytes (w : List TableImage) : Nat := (w.map (fun t => t.bytes.length)).sum

/-- The directory copy that a write makes: the next sequence number, the new check values, the others kept (R193,
R196). -/
def nextDirectory (st : Store) (w : List TableImage) : Directory :=
  let d := directoryInForce st
  ⟨(d.seq + 1) % 4294967296,
    (List.range Config.tableCodes).map (fun c =>
      match w.find? (fun t => t.code == c) with
      | some t => some (crc16 t.bytes).toNat
      | none => (d.checks[c]?).getD none)⟩

/-- The first `k` bytes of the directory copy, over the copy that is not in force (R193; log entry 20). -/
def writeCopy (k : Nat) (d : Directory) (st : Store) : Store :=
  match secondInForce st with
  | some false => { st with dirB := tear k st.dirB (writeDirectory d) }
  | _ => { st with dirA := tear k st.dirA (writeDirectory d) }

/-- The store after the first `k` bytes of a write: the images in order, then the directory copy (R193). Writing images
leaves both directory copies as they were. -/
def writeStore (k : Nat) (w : List TableImage) (st : Store) : Store :=
  let st' := writeImages k w st
  if imageBytes w < k then writeCopy (k - imageBytes w) (nextDirectory st w) st' else st'

/-- A reset cuts a write off before its directory copy is whole (R193; log entry 21). -/
def tornStore (progress : Nat) (s : State) : Store :=
  match s.start.write with
  | some w => writeStore (min progress (imageBytes w + 35)) w s.store
  | none => s.store

/-! ## The restart (R193) -/

/-- The Line Controller at the restart: conditions told as ended, the nodes in order of address and LINE-BREAK after them
(DESIGN CHOICE, log entry 56), then its restart values (R160, R164, R167, R168). -/
def restartLine (s : State) : State :=
  let s := addresses.foldl (fun s a => if (nodeRec s a).state = .silent then tellEnded .nodeSilent a s else s) s
  let s := tellEnded .lineBreak 0 s
  { s with line := { s.line with
      nodes := LineState.reset.nodes
      slots := []
      slotAt := 0
      heard := []
      enumeration := .notRunning
      assign := .none
      sweep := []
      queue := []
      breakCount := 0 } }

/-- The Pump Unit at the restart, no tank served; its record of SUPPLY-LOW is kept (R85, R87, R89, R100). -/
def restartPumps (s : State) : State :=
  { s with
    pump := { PumpState.reset with supplyLow := s.pump.supplyLow }
    tank := { s.tank with recs := s.tank.recs.map (fun r => { r with serving := none }) } }

/-- The Hull Evaluator at the restart; a mismatch that stood is told as ended, and the places of the PROJECT orders lost
are freed without a REPLY (R64, R173). -/
def restartHull (s : State) : State :=
  let mismatch := (s.hull.condition.map CondRecord.mismatch).getD false
  let s := { s with
    hull := HullState.reset
    console := { s.console with places := s.console.places.filter (fun p =>
      match p.state with
      | .ready _ _ => true
      | _ => false) } }
  judgeSummary (if mismatch then tellEnded .draughtMismatch 0 s else s)

/-- The Start and Supply Unit at the restart: out of SETUP, SELF-CHECK begins, the working tables written and gone
(R193; log entry 45). -/
def restartStart (s : State) : State :=
  { s with
    start := { StartState.reset with
      vsupLow := s.start.vsupLow
      supplySeen := s.start.supplySeen
      orderedSeen := s.start.orderedSeen
      restart := true
      inReset := s.start.inReset }
    hold := { s.hold with takeUp := true } }

/-- The completion of a SETUP-END write: the store is whole and the part restarts at SELF-CHECK (R193). The blocks tell the
conditions that have ended in the order line, channels, pumps, hull, so the end of DRAUGHT-MISMATCH comes after that of
every CHANNEL-LOST; R180 gives no order (DESIGN CHOICE, log entry 56). -/
def completeWrite (w : List TableImage) (s : State) : State :=
  let s := { s with
    store := writeStore (imageBytes w + 36) w s.store
    plan := restartPlan (w.any (fun t => t.code == 3)) s.plan }
  restartStart (restartHull (restartPumps (restartChannels (restartLine s))))

/-! ## Resets (R186, R187) -/

/-- The densities in force at a reset; one that waited for a conversion is in force from here on (R19; log
entry 10). -/
def densitiesNow (s : State) : Vector Nat 64 :=
  Vector.ofFn (fun i : Fin 64 => (s.tank.recs[i].newDensity).getD s.tank.density[i])

/-- What a SUPPLY or ORDERED reset makes of the part: every block's reset values, the retained area kept (R186, R187).
The fixed tables stand as last graded until the next SELF-CHECK grades them (log entry 4). -/
def retainedReset (progress : Nat) (s : State) : State :=
  { State.reset with
    tables := s.tables
    store := tornStore progress s
    tank := { TankState.reset with density := densitiesNow s }
    hold := { s.hold with takeUp := true }
    plan := retainedPlan s.plan
    start := { StartState.reset with
      vsupLow := s.start.vsupLow
      supplySeen := s.start.supplySeen
      orderedSeen := s.start.orderedSeen }
    pending := s.pending }

/-- The retained area is lost and the reset becomes a POWER-ON reset: everything but the fixed tables takes its power-on
value (R186, R187). -/
def loseRetained (s : State) : State :=
  { State.reset with
    tables := s.tables
    store := s.store
    start := { StartState.reset with inReset := some .powerOn, vsupLow := s.start.vsupLow }
    pending := s.pending }

/-- A SUPPLY reset begins: the cause is recorded (R186, R187). -/
def beginSupplyReset (progress : Nat) (s : State) : State :=
  let s := retainedReset progress s
  { s with start := { s.start with inReset := some .supply, vsupLow := true, supplySeen := true } }

/-- SUPPLY-LOW as the Fault Unit and the Pump Unit are told of it (R100, R186). -/
def tellSupply (low : Bool) (s : State) : State :=
  let s := { s with pump := { s.pump with supplyLow := low } }
  if low then tellActive .supplyLow 0 s else tellEnded .supplyLow 0 s

/-- A reset has ended: SELF-CHECK begins, and VSUP is judged at once (R186). -/
def finishReset (belowLow : Bool) (s : State) : State :=
  let s := { s with start := { s.start with inReset := none, vsupLow := belowLow } }
  if belowLow then tellSupply true s else s

/-- An ORDERED reset, which begins and ends as one event (R186, R187). -/
def orderedResetWork (s : State) : State :=
  let low := s.start.vsupLow
  let s := retainedReset 0 s
  finishReset low { s with start := { s.start with orderedSeen := true } }

/-! ## Cycle close, and a FAULT report that has been sent -/

/-- Whether this close asks for a safe sweep in SETUP (R190; log entry 24). -/
def setupSweepDue (s : State) : Bool :=
  s.start.setup && s.line.enumeration == .ended && Config.setupSweepCloses ≤ s.start.setupCloses + 1

/-- The count of closes spent in SETUP, with a safe sweep at each 50th (R190). -/
def setupSweepClose (s : State) : State :=
  if s.start.setup && s.line.enumeration == .ended then
    if setupSweepDue s then fillSweep { s with start := { s.start with setupCloses := 0 } }
    else { s with start := { s.start with setupCloses := s.start.setupCloses + 1 } }
  else s

/-- The Start and Supply Unit's work at a cycle close: the SETUP sweep, and RUN after READY (R189, R190). -/
def startClose (s : State) : State :=
  let s := unlessTaken .setupSweep setupSweepClose s
  if s.start.phase = .ready then { s with start := { s.start with phase := .run } } else s

/-- The full sweep of ANNOUNCE is complete at the close of the first cycle whose mark follows the entry (R189). -/
def sweepClose (m : SweepMark) : SweepMark :=
  match m with
  | .marked => .complete
  | m => m

/-- A FAULT report has been sent (R183): reported when the states agree, and a GONE entry leaves the list, which clears
the list-full flag (R182). -/
def faultSent (r : FaultReport) (s : State) : State :=
  match findFault s r.code r.subject with
  | none => s
  | some e =>
    if e.active = r.active then
      if e.active then updateFault r.code r.subject (fun e => { e with reported := true }) s
      else
        judgeSummary { s with fault := { s.fault with
          list := removeFirst (fun e => e.code == r.code && e.subject == r.subject) s.fault.list
          listFull := false } }
    else s

end Sys2Proof.Machine
end

