-- ==== Sys2Proof/Machine/CloseEvents.lean ====
section
/-! DEFINITION. The meanings of CYCLE_CLOSE (R158) and of the steps of a cycle close that the table lists on their own
(log entry 6). -/

namespace Sys2Proof.Machine

open Sys2Proof

/-- The Report Unit's work at a cycle close (R147, R153, R155), a CONDITION report posted before a PROGRESS report (DESIGN
CHOICE, log entry 56). -/
def reportClose (s : State) : State :=
  unlessTaken .progress progressClose (unlessTaken .condition conditionClose (makeEligible s))

/-- One block's work at a cycle close (R158). -/
def closeWork (w : CloseWork) (s : State) : State :=
  match w with
  | .line => lineClose s
  | .channels => channelClose s
  | .pumps => withProgress pumpClose s
  | .plan => withProgress (unlessTaken .confirm confirmClose) s
  | .hull => { s with hull := { s.hull with currentFlag := true } }
  | .reports => reportClose s
  | .faults => postOwed s
  | .start => startClose s

/-- The blocks that work at a cycle close. -/
def allCloseWork : List CloseWork := [.line, .channels, .pumps, .plan, .hull, .reports, .faults, .start]

/-- The end of a close: the next number, the next cycle's mark to come, and a full sweep complete (R159, R189). -/
def finishClose (s : State) : State :=
  { s with
    line := { s.line with cycle := (s.line.cycle + 1) % 256, part := .beforeMark }
    start := { s.start with sweep := sweepClose s.start.sweep }
    close := ⟨false, []⟩ }

/-- CYCLE_CLOSE: each block's work once, in the world's order (R158; log entry 5). No evaluation begins within it, so a
snapshot taken for a close sees every validity of that close (DESIGN CHOICE, log entry 64). -/
def execCycleClose (order : List CloseWork) (s : State) : Host.Outcome State Fault Refusal :=
  .next (if closeable s then
      finishClose ((completeOrder allCloseWork order).foldl (fun s w => closeWork w s) (beginClose s))
    else s)

/-- CHANNEL_STALE: this close makes a channel LOST (R11). -/
def execChannelStale (channel : Nat) (s : State) : Host.Outcome State Fault Refusal :=
  .next (closeStep (.channel channel) (staleDue channel) (ageChannel channel) s)

/-- NODE_SILENT: this close makes a node SILENT (R166). -/
def execNodeSilent (address : Nat) (s : State) : Host.Outcome State Fault Refusal :=
  .next (closeStep (.node address) (silentDue address) (judgeNode address) s)

/-- LINE_BREAK: the break count reaches 3 at this close (R167). -/
def execLineBreak (s : State) : Host.Outcome State Fault Refusal := .next (closeStep .lineBreak breakDue judgeBreak s)

/-- ENUMERATION_ADDRESSING_STOP: addresses stop being given at this close (R162 to R164). -/
def execEnumerationAddressingStop (s : State) : Host.Outcome State Fault Refusal :=
  .next (closeStep .assign addressingStops assignClose s)

/-- SETUP_SAFE_SWEEP: this close is a 50th spent in SETUP (R190). -/
def execSetupSafeSweep (s : State) : Host.Outcome State Fault Refusal :=
  .next (closeStep .setupSweep setupSweepDue setupSweepClose s)

/-- Whether a pump's counter is due at this close in one of the stages given. -/
def dueIn (stages : List PumpStage) (p : Nat) (s : State) : Bool :=
  stages.contains (pumpRec s p).stage && (pumpRec s p).tank.isSome && counterDue s p

/-- A step of the close that is one pump's counter. -/
def pumpStep (stages : List PumpStage) (p : Nat) (s : State) : State :=
  closeStep (.pump p) (dueIn stages p) (withProgress (pumpCount p)) s

/-- VALVE_TRAVEL_TIMEOUT: in OPENING or CLOSING (R91, R95). -/
def execValveTravelTimeout (pump : Nat) (s : State) : Host.Outcome State Fault Refusal :=
  .next (pumpStep [.opening, .closing] pump s)

/-- PUMP_START_TIMEOUT: in STARTING or STOPPING (R92, R94). -/
def execPumpStartTimeout (pump : Nat) (s : State) : Host.Outcome State Fault Refusal :=
  .next (pumpStep [.starting, .stopping] pump s)

/-- FLOW_WINDOW_END: in RUNNING (R99). -/
def execFlowWindowEnd (pump : Nat) (s : State) : Host.Outcome State Fault Refusal := .next (pumpStep [.running] pump s)

/-- CONFIRM_LATE: the confirm count reaches the confirm period (R125). -/
def execConfirmLate (s : State) : Host.Outcome State Fault Refusal :=
  .next (closeStep .confirm confirmDue (withProgress confirmClose) s)

/-- CONDITION_PERIOD: a CONDITION report is posted (R153). -/
def execConditionPeriod (s : State) : Host.Outcome State Fault Refusal :=
  .next (closeStep .condition conditionDue conditionClose s)

/-- PROGRESS_PERIOD: a PROGRESS report is posted for the designated context (R155). -/
def execProgressPeriod (s : State) : Host.Outcome State Fault Refusal :=
  .next (closeStep .progress progressDue progressClose s)

end Sys2Proof.Machine
end

