-- ==== Sys2Proof/Machine/Frames.lean ====
section
/-! DEFINITION. The bytes of every outbound console frame (spec/12_frame_and_record_layouts.md, sections 12.1 and
12.3; R194, R195). Absent fields carry their absent markers, and fields with a presence bit carry 0. -/

namespace Sys2Proof.Machine

open Sys2Proof

/-- A console frame: start byte, kind, length, body, CRC-16 (R171, R195). -/
def consoleFrame (kind : Nat) (body : List Byte) : List Byte :=
  let covered := be 1 kind ++ be 1 body.length ++ body
  be 1 0x7E ++ covered ++ be 2 (crc16 covered).toNat

/-! ## Codes and absent markers (R194) -/

/-- A flag as one bit of a flags byte. -/
def bit (k : Nat) (b : Bool) : Nat := if b then 2 ^ k else 0

/-- An optional field of one byte. -/
def opt1 (v : Option Nat) : List Byte := be 1 (v.getD 0xFF)

/-- An optional unsigned field of two bytes. -/
def opt2 (v : Option Nat) : List Byte := be 2 (v.getD 0xFFFF)

/-- An optional unsigned field of four bytes. -/
def opt4 (v : Option Nat) : List Byte := be 4 (v.getD 0xFFFFFFFF)

/-- An optional signed field of four bytes. -/
def optInt4 (v : Option Int) : List Byte := beInt 4 (v.getD (-2147483648))

/-- The code of a context. -/
def Ctx.code : Ctx → Nat
  | .a => 0
  | .b => 1

/-- The code of a sample class. -/
def SampleClass.code : SampleClass → Nat
  | .normal => 0
  | .over => 1
  | .under => 2
  | .fault => 3

/-- The code of a tank class. -/
def TankClass.code : TankClass → Nat
  | .good => 0
  | .degraded => 1
  | .indefinite => 2

/-- The code of a binding. -/
def Binding.code : Binding → Nat
  | .tank t .primary => t
  | .tank t .secondary => t + 64
  | .mark .fore => 128
  | .mark .aft => 129
  | .mark .midPort => 130
  | .mark .midStbd => 131

/-- The code of an outcome. -/
def ReplyCode.code : ReplyCode → Nat
  | .accepted => 0
  | .clamped => 1
  | .busy => 2
  | .notInState => 3
  | .outOfRange => 4
  | .badTable => 5
  | .badPlan => 6
  | .owned => 7
  | .queueFull => 8
  | .unknown => 9

/-- The code of a context state. -/
def CtxState.code : CtxState → Nat
  | .empty => 0
  | .loaded => 1
  | .active => 2
  | .paused => 3
  | .complete => 4
  | .aborted => 5
  | .suspended => 6

/-- The code of a step state. -/
def StepState.code : StepState → Nat
  | .waiting => 0
  | .gated => 1
  | .running => 2
  | .held _ => 3
  | .done => 4
  | .skipped => 5

/-- The code of a hold reason. -/
def HoldReason.code : HoldReason → Nat
  | .condition => 0
  | .pause => 1
  | .valve => 2
  | .noFlow => 3
  | .confirmEarly => 4
  | .confirmLate => 5
  | .exchange => 6
  | .restart => 7

/-- The hold reason of a HELD step. -/
def StepState.reason : StepState → Option HoldReason
  | .held r => some r
  | _ => none

/-- The code of an action. -/
def TankAction.code : TankAction → Nat
  | .discharge => 0
  | .fill => 1

/-- The code of a limit set. -/
def LimitSet.code : LimitSet → Nat
  | .harbour => 0
  | .sea => 1

/-! ## Bodies of evaluations -/

/-- Δ and the mean, fore and aft draughts, as several frames carry them. -/
def draughtBytes (r : EvalResult) : List Byte := beInt 4 r.delta ++ beInt 4 r.mean ++ beInt 4 r.fore ++ beInt 4 r.aft

/-- The draught, trim and overall classes. -/
def classBytes (r : EvalResult) : List Byte :=
  be 1 r.draughtCls.rank ++ be 1 r.trimCls.rank ++ be 1 r.overall.rank

/-- The station record of a PROJECT reply. -/
def stationBytes (r : StationRes) : List Byte :=
  be 2 r.sfPm ++ be 1 r.sfCls.rank ++ be 2 r.bmPm ++ be 1 r.bmCls.rank

/-- The own body of a PROJECT reply. -/
def projectBytes (r : EvalResult) : List Byte :=
  be 2 r.number ++ draughtBytes r ++ beInt 2 r.trim ++ classBytes r ++ be 1 (bit 0 r.degraded) ++
    opt1 r.firstIndef ++ be 1 r.stations.length ++ r.stations.flatMap stationBytes

/-! ## Replies -/

/-- The STATUS body (R177). -/
def statusBytes (b : StatusBody) : List Byte :=
  be 1 b.phase ++ be 1 (bit 0 b.setup + bit 1 b.writing) ++ be 1 b.cycle ++ be 1 (b.period / 100) ++
    be 1 b.overall.rank ++ be 1 (bit 0 b.summary + bit 1 b.listFull) ++ be 1 b.designated.code ++
    be 1 b.stateA.code ++ be 1 b.stateB.code ++
    be 1 (bit 0 b.inFlight.isSome + bit 1 b.autoPending + bit 2 b.autoEffective) ++
    opt1 (b.inFlight.map Ctx.code) ++ be 1 (bit 0 b.supplySeen + bit 1 b.orderedSeen) ++
    be 1 b.reports ++ be 1 b.places ++ be 1 b.samples ++
    be 2 b.discardedFrames ++ be 2 b.discardedOrders ++ be 2 b.droppedSamples

/-- The own body of a REPLY (section 12.3). -/
def replyBytes : ReplyBody → List Byte
  | .none => []
  | .project r => projectBytes r
  | .badPlan step entry => opt1 step ++ opt1 entry
  | .confirm early count => be 1 (bit 0 early) ++ be 2 count
  | .forward queued => be 1 queued
  | .tableRead bytes check =>
    be 1 (bit 0 check.isSome) ++ bytes ++ (match check with
      | some c => be 2 c
      | none => [])
  | .status b => statusBytes b

/-! ## Reports -/

/-- The LOADER body. -/
def loaderBytes (r : LoaderReport) : List Byte :=
  be 1 r.hold ++ be 1 (if r.stop then 1 else 2) ++ be 4 r.mass ++ be 4 r.allowance ++ be 1 r.overall.rank ++ be 1 r.cycle

/-- The ALERT body. -/
def alertBytes (r : AlertReport) : List Byte :=
  be 1 r.subject ++ be 1 r.old.rank ++ be 1 r.new.rank ++ be 1 r.peak.rank ++ be 2 r.number ++ optInt4 r.first ++
    optInt4 r.second ++ opt2 r.firstPm ++ opt2 r.secondPm

/-- The FAULT body. -/
def faultBytes (r : FaultReport) : List Byte :=
  be 1 r.code.priority ++ be 1 r.subject ++ be 1 r.firstCycle ++ be 1 (bit 0 (!r.active)) ++ be 1 r.cycle

/-- The valid-table bits of an IDENT; bit 0 follows the identity. -/
def validBits (checks : List (Option Nat)) : Nat := (checks.mapIdx (fun t c => bit t c.isSome)).sum

/-- The IDENT body. -/
def identBytes (r : IdentReport) (remaining : Nat) : List Byte :=
  be 1 remaining ++ be 1 (bit 0 r.supplySeen + bit 1 r.orderedSeen) ++ r.identity.getD (List.replicate 16 0) ++
    be 2 (validBits r.checks) ++ r.checks.flatMap (fun c => be 2 (c.getD 0)) ++ be 1 r.cycle

/-- The READY body. -/
def readyBytes (r : ReadyReport) (remaining : Nat) : List Byte :=
  be 1 remaining ++ be 2 r.res.number ++ draughtBytes r.res ++ beInt 2 r.res.trim ++ classBytes r.res ++
    be 1 (bit 0 r.res.degraded) ++ opt1 r.res.firstIndef ++ be 1 r.cycle

/-- A maximum with its station. -/
def maximumBytes (m : Option (Nat × Nat)) : List Byte := opt2 (m.map Prod.fst) ++ opt1 (m.map Prod.snd)

/-- A measured draught. -/
def measuredBytes (v : Option Nat) : List Byte := optInt4 (v.map Int.ofNat)

/-- The CONDITION body. -/
def conditionBytes (r : ConditionReport) : List Byte :=
  be 1 (bit 0 r.present) ++ be 2 r.res.number ++ be 1 r.res.cycle ++ be 1 r.res.limitSet.code ++ draughtBytes r.res ++
    measuredBytes r.measured.fore ++ measuredBytes r.measured.aft ++ measuredBytes r.measured.midPort ++
    measuredBytes r.measured.midStbd ++ measuredBytes r.measured.mean ++ beInt 2 r.res.trim ++ classBytes r.res ++
    be 1 (bit 0 r.res.degraded + bit 1 r.mismatch) ++ opt1 r.res.firstIndef ++ be 1 r.windows.length ++
    r.windows.flatMap (fun w => maximumBytes w.sf ++ maximumBytes w.bm)

/-- A tank entry of a PROGRESS body. -/
def progressEntryBytes (e : ProgressEntry) : List Byte :=
  be 1 e.tank ++ be 1 e.action.code ++ be 4 e.target ++ be 4 e.mass ++ be 1 e.cls.code ++ optInt4 e.rate ++
    be 1 (bit 0 e.done) ++ opt1 e.serving

/-- Whether the exchange part names the cause AUTO. -/
def causeAuto (x : Option ProgressExchange) : Bool := x.any (fun e => e.cause == .auto)

/-- The PROGRESS body (log entry 39 for an EMPTY context). -/
def progressBytes (r : ProgressReport) : List Byte :=
  be 1 r.ctx.code ++ be 1 r.state.code ++
    be 1 (bit 0 r.designated + bit 1 r.resumable + bit 2 r.final + bit 3 r.exchange.isSome + bit 4 (causeAuto r.exchange)) ++
    opt1 (r.plan.map ProgressPlan.stepCount) ++ opt1 (r.plan.map ProgressPlan.index) ++
    opt1 (r.plan.map (fun p => p.step.code)) ++ opt1 ((r.plan.bind (fun p => p.step.reason)).map HoldReason.code) ++
    be 4 r.remaining ++ be 1 ((r.exchange.map ProgressExchange.served).getD 0) ++
    be 1 r.entries.length ++ r.entries.flatMap progressEntryBytes ++ be 1 r.cycle

/-! ## Frames -/

/-- An item of a SAMPLE body. -/
def itemBytes (i : SampleItem) : List Byte :=
  be 2 i.raw ++ opt1 (i.cls.map SampleClass.code) ++ opt4 i.sounding ++ opt1 (i.binding.map Binding.code)

/-- The frame of a report with its remaining count (section 12.3). -/
def reportFrame (r : Report) (remaining : Nat) : List Byte :=
  match r with
  | .loader r => consoleFrame 0x40 (loaderBytes r)
  | .alert r => consoleFrame 0x41 (alertBytes r)
  | .fault r => consoleFrame 0x42 (faultBytes r)
  | .ident r => consoleFrame 0x43 (identBytes r remaining)
  | .ready r => consoleFrame 0x44 (readyBytes r remaining)
  | .condition r => consoleFrame 0x45 (conditionBytes r)
  | .progress r => consoleFrame 0x46 (progressBytes r)

/-- The SAMPLE body (R10). -/
def sampleBytes (f : SampleFrame) : List Byte :=
  be 1 f.node ++ be 1 f.cycle ++ be 1 f.items.length ++ f.items.flatMap itemBytes

/-- The bytes of a SAMPLE frame, free where the body is too long for a console frame (log entry 43). -/
def sampleFrame (f : SampleFrame) : List Byte :=
  if f.items.length ≤ Config.sampleItems then consoleFrame 0x30 (sampleBytes f) else Config.longSample (sampleBytes f)

/-- The bytes of a frame under transmission. -/
def txBytes : TxFrame → List Byte
  | .reply tag order code body => consoleFrame 0x20 (be 1 tag ++ be 1 order ++ be 1 code.code ++ replyBytes body)
  | .report r remaining => reportFrame r remaining
  | .sample f => sampleFrame f
  | .idle cycle overall summary => consoleFrame 0x31 (be 1 cycle ++ be 1 overall.rank ++ be 1 (bit 0 summary))

end Sys2Proof.Machine
end

