-- ==== Sys2Proof/Machine/Operands.lean ====
section
/-! DEFINITION. The operand forms of the orders: order codes (R194), context codes (R106, R194), and the general handling
of a voyage setting (R176). -/

namespace Sys2Proof.Machine

open Sys2Proof

/-- Order codes (R194). -/
inductive OrderName where
  | setup
  | setupEnd
  | tableLoad
  | tableRead
  | voyageSet
  | holdSet
  | project
  | planLoad
  | planStart
  | planPause
  | resume
  | skipStep
  | planAbort
  | confirm
  | exchange
  | autoExchange
  | faultClear
  | status
  | reset
  | forward
deriving DecidableEq, Repr

/-- The code an order's REPLY carries; 0 for a FORWARD (R194). -/
def OrderName.code : OrderName → Nat
  | .setup => 1
  | .setupEnd => 2
  | .tableLoad => 3
  | .tableRead => 4
  | .voyageSet => 5
  | .holdSet => 6
  | .project => 7
  | .planLoad => 8
  | .planStart => 9
  | .planPause => 10
  | .resume => 11
  | .skipStep => 12
  | .planAbort => 13
  | .confirm => 14
  | .exchange => 15
  | .autoExchange => 16
  | .faultClear => 17
  | .status => 18
  | .reset => 19
  | .forward => 0

/-- The context a code names (R106, R194). -/
def ctxOf : Nat → Option Ctx
  | 0 => some .a
  | 1 => some .b
  | _ => none

/-- A numeric setting: written at once, or clamped to the nearer bound (R176). -/
def setNumber (lo hi v : Int) (write : Int → State → State) (s : State) : State × Answer :=
  (write (clampInt lo hi v) s, .now (if lo ≤ v ∧ v ≤ hi then .accepted else .clamped) .none)

/-- A setting with named values: written, or refused when the value is not among them (R176). -/
def setNamed {α : Type} (value : Option α) (write : α → State → State) (s : State) : State × Answer :=
  match value with
  | some a => accept (write a s)
  | none => refuse .outOfRange s

/-- Change the settings of the evaluation (R57). -/
def writeEval (f : EvalSettings → EvalSettings) (s : State) : State :=
  { s with settings := { s.settings with eval := f s.settings.eval } }

/-- Change the other settings. -/
def writeSettings (f : Settings → Settings) (s : State) : State := { s with settings := f s.settings }

end Sys2Proof.Machine
end

