-- ==== Sys2Proof/Machine/ConsoleOrders.lean ====
section
/-! DEFINITION. The meanings of FAULT-CLEAR (R184), STATUS (R177), RESET (R178), unknown orders (R172), the other inbound
frames (R41, R169, R171), and the transmitter (R146, R174). -/

namespace Sys2Proof.Machine

open Sys2Proof

/-! ## FAULT-CLEAR -/

/-- Whether a PUMP-FAILED or VALVE-FAULT can be cleared (R184). -/
def clearable (s : State) (code : FaultCode) (subject : Nat) : Bool :=
  match code with
  | .pumpFailed => (findFault s code subject).isSome || (pumpRec s subject).stage == .failed
  | .valveFault => (findFault s code subject).isSome
  | _ => false

/-- The Fault Unit takes a FAULT-CLEAR, and the Pump Unit acts on it (R184, R102). -/
def takeFaultClear (a : FaultArgs) (s : State) : State × Answer :=
  match faultCodeOf a.code with
  | none => refuse .outOfRange s
  | some code =>
    if !code.subjectOk a.subject then refuse .outOfRange s
    else if !clearable s code a.subject then refuse .notInState s
    else
      let s := makeGone code a.subject s
      accept (if code = .pumpFailed then revivePump a.subject s else s)

/-- FAULT-CLEAR (R184). -/
def execFaultClear (tag : Nat) (body : Body FaultArgs) (s : State) : Host.Outcome State Fault Refusal :=
  .next (takeOrder tag OrderName.faultClear.code (withArgs body takeFaultClear) s)

/-! ## STATUS and RESET -/

/-- The number of a start phase in a STATUS body (R177, R194). -/
def StartPhase.code : StartPhase → Nat
  | .selfCheck => 0
  | .enumerate => 1
  | .announce => 2
  | .ready => 3
  | .run => 4

/-- What STATUS reports of the state as it stands, its own place counted (R177). -/
def statusBody (s : State) : StatusBody where
  phase := s.start.phase.code
  setup := s.start.setup
  writing := writing s
  cycle := s.line.lastClosed
  period := s.line.period
  overall := overallClass s
  summary := s.fault.summary
  listFull := s.fault.listFull
  designated := s.plan.designated
  stateA := s.plan.ctxA.state
  stateB := s.plan.ctxB.state
  inFlight := s.plan.exchange.map ExchangeRec.outgoing
  autoPending := s.plan.autoPending
  autoEffective := s.plan.autoEffective
  supplySeen := s.start.supplySeen
  orderedSeen := s.start.orderedSeen
  reports := s.report.queue.length
  places := s.console.places.length + 1
  samples := s.console.relay.length
  discardedFrames := s.console.discardedFrames
  discardedOrders := s.console.discardedOrders
  droppedSamples := s.console.droppedSamples

/-- STATUS (R177). -/
def execStatus (tag : Nat) (body : Body Unit) (s : State) : Host.Outcome State Fault Refusal :=
  .next (takeFrame tag OrderName.status.code
    (withArgs body (fun _ s => (s, .now .accepted (.status (statusBody s))))) s)

/-- RESET: a reset is pending from here on (R178). -/
def execReset (tag : Nat) (body : Body Unit) (s : State) : Host.Outcome State Fault Refusal :=
  .next (takeOrder tag OrderName.reset.code
    (withArgs body (fun _ s => accept { s with console := { s.console with resetPending := true } })) s)

/-- An ORDER whose code names no order, or that is too short to hold a code (R172; log entry 17). -/
def execUnknownOrder (tag : Nat) (code : Body Nat) (s : State) : Host.Outcome State Fault Refusal :=
  .next (match code with
    | .fields c => takeOrder tag c (refuse .unknown) s
    | .badLayout => takeOrder tag Config.missingCode.toNat (refuse .outOfRange) s)

/-! ## Other inbound frames -/

/-- POUR: handed to the Cargo Unit and never answered (R41, R172; log entry 16). -/
def execPour (body : Body PourFrame) (s : State) : Host.Outcome State Fault Refusal :=
  .next (if inReset s then s
    else
      match body with
      | .fields f => takePour f (frameEnd s)
      | .badLayout => frameEnd s)

/-- FORWARD (R169, R179). -/
def execForward (tag : Nat) (body : Body ForwardArgs) (s : State) : Host.Outcome State Fault Refusal :=
  .next (takeOrder tag OrderName.forward.code (withArgs body takeForward) s)

/-- A frame that fails its check, or of no inbound kind, or too long: discarded and counted (R171). -/
def execInboundFrameDiscard (_cause : DiscardCause) (s : State) : Host.Outcome State Fault Refusal :=
  .next (if inReset s then s
    else
      let s := frameEnd s
      { s with console := { s.console with discardedFrames := bump 65535 s.console.discardedFrames } })

/-- A start byte: a hunting receiver begins collecting (R171). -/
def execStartByte (s : State) : Host.Outcome State Fault Refusal :=
  .next (if inReset s then s else { s with console := { s.console with collecting := true } })

/-! ## The transmitter -/

/-- Whether a place is READY (R173). -/
def Place.isReady (p : Place) : Bool :=
  match p.state with
  | .ready _ _ => true
  | _ => false

/-- A frame's transmission begins. -/
def send (f : TxFrame) (s : State) : State := { s with console := { s.console with tx := some ⟨f, txBytes f⟩ } }

/-- The REPLY frame of a READY place. -/
def replyFrame (p : Place) : Option TxFrame :=
  match p.state with
  | .ready code body => some (.reply p.tag p.order code body)
  | _ => none

/-- The REPLY of the READY place taken earliest; its place is freed (R173, R174). -/
def sendReply (f : TxFrame) (s : State) : State :=
  send f { s with console := { s.console with places := removeFirst Place.isReady s.console.places } }

/-- The report the Report Unit gives, with the decreased remaining count (R146, R147). -/
def sendReport (e : ReportEntry) (s : State) : State :=
  send (.report e.report (e.remaining - 1))
    { s with report := { s.report with queue := queueAfterGiving e s.report.queue } }

/-- The IDLE frame built now (R157). -/
def idleFrame (s : State) : TxFrame := .idle s.line.lastClosed (overallClass s) s.fault.summary

/-- The transmit scheduler chooses the next frame (R174). -/
def chooseFrame (s : State) : State :=
  match (s.console.places.find? Place.isReady).bind replyFrame with
  | some f => sendReply f s
  | none =>
    match nextReport s.report.queue with
    | some e => sendReport e s
    | none =>
      match s.console.relay with
      | f :: rest => send (.sample f) { s with console := { s.console with relay := rest } }
      | [] => send (idleFrame s) s

/-- TRANSMITTER_FREE: nothing is chosen while a frame is being sent, in a reset, or after the REPLY to RESET (R174,
R178; log entry 30). -/
def execTransmitterFree (s : State) : Host.Outcome State Fault Refusal :=
  .next (if inReset s || s.console.resetDue || s.console.tx.isSome then s else chooseFrame s)

/-- The owner is told that its frame has been sent (R146, R174, R178, R183, R187). -/
def tellOwner (f : TxFrame) (s : State) : State :=
  match f with
  | .report (.fault r) _ => faultSent r s
  | .report (.ident _) 0 => { s with start := { s.start with supplySeen := false, orderedSeen := false } }
  | .reply _ order .accepted _ =>
    if order = OrderName.reset.code ∧ s.console.resetPending then
      { s with console := { s.console with resetDue := true } }
    else s
  | _ => s

/-- TRANSMISSION_COMPLETE (R146, R174). A reset cuts a frame off, so that none completes in it (R144). -/
def execTransmissionComplete (s : State) : Host.Outcome State Fault Refusal :=
  .next (match s.console.tx with
    | some x => if inReset s then s else tellOwner x.frame { s with console := { s.console with tx := none } }
    | none => s)

end Sys2Proof.Machine
end

