-- ==== Sys2Proof/Machine/EvalEvents.lean ====
section
/-! DEFINITION. The meanings of the evaluation engine's events (R62, R80 to R82, R189). -/

namespace Sys2Proof.Machine

open Sys2Proof

/-- Whether the engine may begin an evaluation: not before the end of SELF-CHECK of a start (R63). -/
def engineMayBegin (s : State) : Bool := !inReset s && s.start.phase != .selfCheck

/-- EVALUATION_BEGIN: a free engine takes the first pending flag (R62, R63, R65). -/
def execEvaluationBegin (s : State) : Host.Outcome State Fault Refusal :=
  .next (match s.hull.engine, nextRequest s.hull with
    | none, some k => if engineMayBegin s then beginEvaluation k s else s
    | _, _ => s)

/-- The Condition Record of a completed CURRENT evaluation (R79). -/
def conditionOf (tab : Tables) (run : Running) : CondRecord :=
  let r := evaluate tab run.number run.snap
  ⟨r, run.snap.measured, mismatchFlag run.snap r, run.snap.settings.maxDraught⟩

/-- READY begins at the first CURRENT completion whose evaluation began after the full sweep (R189). -/
def enterReady (run : Running) (s : State) : State :=
  if s.start.phase = .announce ∧ run.afterSweep then postReady { s with start := { s.start with phase := .ready } } else s

/-- One hand-on of a CURRENT completion (R80, R189): `old` is the record it replaced, as R79 reads it. -/
def handOn (run : Running) (old : EvalResult) (wasMismatch : Bool) (new : CondRecord) (w : HandOn) (s : State) :
    State :=
  match w with
  | .contents => { s with tank := { s.tank with convTrim := new.res.trim } }
  | .cargo => cargoHandOn s
  | .plan => withProgress planHandOn s
  | .report => reportHandOn old new s
  | .fault => judgeSummary (tellChange .draughtMismatch 0 wasMismatch new.mismatch s)
  | .start => enterReady run s

/-- The blocks that take a CURRENT completion. -/
def allHandOns : List HandOn := [.contents, .cargo, .plan, .report, .fault, .start]

/-- A CURRENT evaluation completes: the record is replaced whole and handed on in the world's order (R80; log
entry 5). -/
def completeCurrent (run : Running) (order : List HandOn) (s : State) : State :=
  let new := conditionOf s.tables run
  let old := conditionResult s
  let was := (s.hull.condition.map CondRecord.mismatch).getD false
  let s := { s with hull := { s.hull with engine := none, condition := some new } }
  (completeOrder allHandOns order).foldl (fun s w => handOn run old was new w s) s

/-- The evaluation in flight when events of the engine can come. -/
def runningNow (s : State) : Option Running := if inReset s then none else s.hull.engine

/-- CURRENT_COMPLETION (R80). -/
def execCurrentCompletion (order : List HandOn) (s : State) : Host.Outcome State Fault Refusal :=
  .next (match runningNow s with
    | some run =>
      match run.kind with
      | .current => completeCurrent run order s
      | _ => s
    | none => s)

/-- STEP_COMPLETION: the STEP record is replaced and the Plan Unit decides (R81, R113). -/
def execStepCompletion (s : State) : Host.Outcome State Fault Refusal :=
  .next (match runningNow s with
    | some run =>
      match run.kind with
      | .step q =>
        let p : StepRecord := ⟨evaluate s.tables run.number run.snap, q.ctx, q.step⟩
        withProgress (planStepCompletion p) { s with hull := { s.hull with engine := none, stepRec := some p } }
      | _ => s
    | none => s)

/-- ORDER_COMPLETION: the ORDER record is replaced and the PROJECT is answered (R81, R82). -/
def execOrderCompletion (s : State) : Host.Outcome State Fault Refusal :=
  .next (match runningNow s with
    | some run =>
      match run.kind with
      | .order q =>
        let r := evaluate s.tables run.number run.snap
        answerProject r { s with hull := { s.hull with engine := none, orderRec := some ⟨r, q.tag⟩ } }
      | _ => s
    | none => s)

end Sys2Proof.Machine
end

