-- ==== Sys2Proof/Machine/LineEvents.lean ====
section
/-! DEFINITION. The meanings of the field-line events within a line cycle (R158 to R168) and of the end of a conversion
(R27). -/

namespace Sys2Proof.Machine

open Sys2Proof

/-- LINE_CYCLE_MARK (R158, R159). -/
def execLineCycleMark (s : State) : Host.Outcome State Fault Refusal :=
  .next (if !inReset s && s.line.part == .beforeMark then openCycle s else s)

/-- COMMAND_SLOT (R168). -/
def execCommandSlot (s : State) : Host.Outcome State Fault Refusal :=
  .next (if !inReset s && s.line.part == .afterMark then commandSlotWork s else s)

/-- Whether the slots of the cycle are passing: after the command slot, before the close has begun. -/
def slotsOpen (s : State) : Bool := closeable s && !s.close.begun

/-- ASSIGNED: a frame in the assignment slot (R162, R163). -/
def execAssigned (frame : List Byte) (s : State) : Host.Outcome State Fault Refusal :=
  .next (if slotsOpen s then takeAssigned frame s else s)

/-- Whether a frame lies in an answer slot: the address has one, and it has not passed (R165; log entry 28). -/
def inSlot (s : State) (slot : Nat) : Bool := slotsOpen s && s.line.slots.contains slot && s.line.slotAt < slot

/-- ANSWER_FRAME: a frame in an answer slot; outside every slot it counts for nothing (R165). -/
def execAnswerFrame (slot : Nat) (frame : List Byte) (order : List FrameWork) (s : State) :
    Host.Outcome State Fault Refusal :=
  .next (if inSlot s slot then withProgress (takeAnswer slot frame order) s else s)

/-- FRAME_OUTSIDE_SLOT: discarded, and counts for nothing (R165). -/
def execFrameOutsideSlot (_frame : List Byte) (s : State) : Host.Outcome State Fault Refusal := .next s

/-- The end of a conversion: the contents, the Pump Unit told of a sample, a waiting density, the next conversion (R27,
R19, R35, R93). -/
def endConversion (t : Nat) (c : Conversion) (s : State) : State :=
  let s := writeConversion t c s
  let s := if c.request.kind = .sample then sampleConverted t s else s
  nextConversion t (applyNewDensity t s)

/-- CONVERSION_END (R27). -/
def execConversionEnd (tank : Nat) (s : State) : Host.Outcome State Fault Refusal :=
  .next (match (tankRec s tank).conv with
    | some c => if inReset s then s else endConversion tank c s
    | none => s)

end Sys2Proof.Machine
end

