-- ==== Sys2Proof/Machine/PlanOrders.lean ====
section
/-! DEFINITION. The meanings of HOLD-SET (R45), PROJECT (R61), the plan orders (R106 to R109, R120 to R126), EXCHANGE
(R131) and AUTO-EXCHANGE (R137). -/

namespace Sys2Proof.Machine

open Sys2Proof

/-! ## HOLD-SET and PROJECT -/

/-- The Cargo Unit takes a HOLD-SET (R45). -/
def takeHoldSet (a : HoldSetArgs) (s : State) : State × Answer :=
  if Config.holds ≤ a.hold ∨ Config.maxHoldMass < a.mass then refuse .outOfRange s
  else accept (setHoldMass a.hold a.mass s)

/-- HOLD-SET (R45). -/
def execHoldSet (tag : Nat) (body : Body HoldSetArgs) (s : State) : Host.Outcome State Fault Refusal :=
  .next (takeOrder tag OrderName.holdSet.code (withArgs body takeHoldSet) s)

/-- Whether a substitution passes R61. -/
def substitutionOk (s : State) (q : Substitution) : Bool :=
  q.item < Config.items &&
    (if q.item < Config.tanks then tankInUse s q.item && q.mass ≤ capacity s q.item else q.mass ≤ Config.maxHoldMass)

/-- Whether a PROJECT is taken (R61). -/
def projectOk (s : State) (l : List Substitution) : Bool :=
  l.length ≤ Config.substitutions && allDistinct (l.map Substitution.item) && l.all (substitutionOk s)

/-- The Hull Evaluator takes a PROJECT: a PROJECT that the ORDER flag held is answered BUSY and replaced (R61). -/
def takeProject (tag : Nat) (l : List Substitution) (s : State) : State × Answer :=
  if projectOk s l then
    let s := answerReplaced s
    ({ s with hull := { s.hull with orderFlag := some ⟨tag, l⟩ } }, .later)
  else refuse .outOfRange s

/-- PROJECT (R61). -/
def execProject (tag : Nat) (body : Body (List Substitution)) (s : State) : Host.Outcome State Fault Refusal :=
  .next (takeOrder tag OrderName.project.code (withArgs body (takeProject tag)) s)

/-! ## The gate of the plan orders -/

/-- The refusals that plan orders, EXCHANGE and AUTO-EXCHANGE share after BUSY for a write (R106, R131, R137). -/
def planGate (h : State → State × Answer) (s : State) : State × Answer :=
  if s.start.setup || !announced s then refuse .notInState s
  else if s.plan.exchange.isSome then refuse .busy s
  else h s

/-- A plan order that names a context (R106). -/
def withCtx (code : Nat) (h : Ctx → State → State × Answer) (s : State) : State × Answer :=
  planGate (fun s =>
    match ctxOf code with
    | some c => h c s
    | none => refuse .outOfRange s) s

/-- Post a PROGRESS report for each context that an order changed (R110; log entry 11). -/
def progressing (h : State → State × Answer) (s : State) : State × Answer :=
  let r := h s
  (withProgress (fun _ => r.1) s, r.2)

/-- A plan order with its reply place. -/
def planOrder (tag : Nat) (name : OrderName) (h : State → State × Answer) (s : State) :
    Host.Outcome State Fault Refusal :=
  .next (takeOrder tag name.code (progressing h) s)

/-! ## PLAN-LOAD -/

/-- BAD-PLAN with the position at fault, the working plan discarded (R107, R108). -/
def badPlan (c : Ctx) (f : PlanFault) (s : State) : State × Answer :=
  (setWork c none s, .now .badPlan (.badPlan f.step f.entry))

/-- The working plan as a part leaves it: judged and installed at a last part (R107 to R109). -/
def takeWork (c : Ctx) (last : Bool) (w : WorkPlan) (s : State) : State × Answer :=
  if Config.planSteps < w.steps.length then badPlan c ⟨none, none⟩ s
  else if last then
    match planFault s w with
    | some f => badPlan c f s
    | none => accept (setCtx c (installedRec (planOfWork w)) (setWork c none s))
  else accept (setWork c (some w) s)

/-- The Plan Unit takes a PLAN-LOAD part (R107, R109). Where both refusals of R109 hold, the INVALID Tank Table is
answered (DESIGN CHOICE, log entry 61). -/
def takePlanPart (p : PlanPart) (c : Ctx) (s : State) : State × Answer :=
  let st := (ctxRec s c).state
  if s.tables.tank.isNone then refuse .notInState s
  else if s.plan.designated = c ∧ (st = .active ∨ st = .paused) then refuse .busy s
  else if p.first then
    takeWork c p.last ⟨p.period.getD Config.defaultPeriod, p.share.getD Config.defaultShare, p.steps⟩ s
  else
    match workPlan s c with
    | some w => takeWork c p.last { w with steps := w.steps ++ p.steps } s
    | none => refuse .notInState s

/-- PLAN-LOAD (R107 to R109). -/
def execPlanLoad (tag : Nat) (body : Body PlanPart) (s : State) : Host.Outcome State Fault Refusal :=
  planOrder tag .planLoad (withArgs body (fun p => withCtx p.ctx (takePlanPart p))) s

/-! ## Starting, pausing and resuming -/

/-- A plan of an ABORTED context started again from step 0 (R120). -/
def restartAborted (s : State) : State :=
  let r := designatedRec s
  gateStep (setCtx s.plan.designated { r with
    state := .active
    index := 0
    steps := r.steps.map (fun x => ⟨.waiting, x.done.map (fun _ => false)⟩) } s)

/-- The Plan Unit takes a PLAN-START (R120). -/
def takeStart (c : Ctx) (s : State) : State × Answer :=
  if s.plan.designated ≠ c then refuse .notInState s
  else
    match (ctxRec s c).state with
    | .loaded => accept (startLoaded s)
    | .aborted => accept (restartAborted s)
    | _ => refuse .notInState s

/-- PLAN-START (R120). -/
def execPlanStart (tag : Nat) (body : Body Nat) (s : State) : Host.Outcome State Fault Refusal :=
  planOrder tag .planStart (withArgs body (fun c => withCtx c takeStart)) s

/-- An ACTIVE designated context becomes PAUSED (R121). -/
def pauseDesignated (s : State) : State :=
  let s := holdStep .pause s
  setCtx s.plan.designated { designatedRec s with state := .paused, asked := false } s

/-- The Plan Unit takes a PLAN-PAUSE (R121). -/
def takePause (c : Ctx) (s : State) : State × Answer :=
  if s.plan.designated = c ∧ (ctxRec s c).state = .active then accept (pauseDesignated s) else refuse .notInState s

/-- PLAN-PAUSE (R121). -/
def execPlanPause (tag : Nat) (body : Body Nat) (s : State) : Host.Outcome State Fault Refusal :=
  planOrder tag .planPause (withArgs body (fun c => withCtx c takePause)) s

/-- The designated context takes the state ACTIVE. -/
def activate (s : State) : State := setCtx s.plan.designated { designatedRec s with state := .active } s

/-- The Plan Unit takes a RESUME (R122). -/
def takeResume (c : Ctx) (s : State) : State × Answer :=
  if s.plan.designated ≠ c then refuse .notInState s
  else
    match (ctxRec s c).state, currentState s with
    | .paused, some (.held _) => accept (gateStep (activate s))
    | .paused, some .gated => accept (judgeRequest (activate s))
    | .paused, some .waiting => accept (gateStep (activate s))
    | .active, some (.held _) => accept (gateStep s)
    | _, _ => refuse .notInState s

/-- RESUME (R122). -/
def execResume (tag : Nat) (body : Body Nat) (s : State) : Host.Outcome State Fault Refusal :=
  planOrder tag .resume (withArgs body (fun c => withCtx c takeResume)) s

/-! ## SKIP-STEP, PLAN-ABORT, CONFIRM -/

/-- Whether SKIP-STEP may act on a context as it stands (R123). -/
def skipAllowed (s : State) (c : Ctx) : Bool :=
  match (ctxRec s c).state with
  | .loaded => true
  | .active | .paused => s.plan.designated == c
  | _ => false

/-- The current step of the designated, ACTIVE or PAUSED, context has been skipped (R123, R116). -/
def skipCurrent (s : State) : State :=
  let r := designatedRec s
  advance (clearService (stepTanks r r.index) (setCtx s.plan.designated { r with asked := false } s))

/-- A step becomes SKIPPED; a step of the designated context is a step boundary (R123, R138). -/
def skipStepWork (c : Ctx) (i : Nat) (s : State) : State :=
  let r := ctxRec s c
  let s := setCtx c (r.putStep i .skipped) s
  let s := if s.plan.designated = c then boundary s else s
  if r.index = i ∧ r.state ≠ .loaded then skipCurrent s else s

/-- The Plan Unit takes a SKIP-STEP (R123). -/
def takeSkip (i : Nat) (c : Ctx) (s : State) : State × Answer :=
  if !skipAllowed s c then refuse .notInState s
  else
    match stepState (ctxRec s c) i with
    | none => refuse .outOfRange s
    | some .running => refuse .notInState s
    | some .done => refuse .notInState s
    | some .skipped => refuse .notInState s
    | some _ => accept (skipStepWork c i s)

/-- SKIP-STEP (R123). -/
def execSkipStep (tag : Nat) (body : Body SkipArgs) (s : State) : Host.Outcome State Fault Refusal :=
  planOrder tag .skipStep (withArgs body (fun a => withCtx a.ctx (takeSkip a.step))) s

/-- The record of an aborted context: its current step WAITING when it was GATED, RUNNING or HELD (R124). -/
def abortedRec (r : CtxRec) : CtxRec :=
  let back : Bool := match stepState r r.index with
    | some .gated => true
    | some .running => true
    | some (.held _) => true
    | _ => false
  let r' := if back then r.putStep r.index .waiting else r
  { r' with state := .aborted, asked := false, resumable := false }

/-- The designated context is aborted: stop requests, service fields absent (R124). -/
def abortDesignated (s : State) : State :=
  let r := designatedRec s
  let l := stepTanks r r.index
  let s := if stepRunning s || isHeld (currentState s) then stopAll l s else s
  clearService l (setCtx s.plan.designated (abortedRec (designatedRec s)) s)

/-- The Plan Unit takes a PLAN-ABORT (R124). -/
def takeAbort (c : Ctx) (s : State) : State × Answer :=
  let st := (ctxRec s c).state
  if s.plan.designated = c then
    if st = .active ∨ st = .paused then accept (abortDesignated s) else refuse .notInState s
  else if st = .suspended then accept (setCtx c (abortedRec (ctxRec s c)) s)
  else refuse .notInState s

/-- PLAN-ABORT (R124). -/
def execPlanAbort (tag : Nat) (body : Body Nat) (s : State) : Host.Outcome State Fault Refusal :=
  planOrder tag .planAbort (withArgs body (fun c => withCtx c takeAbort)) s

/-- The Plan Unit takes a CONFIRM (R126). -/
def takeConfirm (s : State) : State × Answer :=
  let r := designatedRec s
  match stepRunning s, r.plan with
  | true, some p =>
    if windowOpens p ≤ r.confirmCount then
      (setCtx s.plan.designated { r with confirmCount := 0 } s, .now .accepted (.confirm false r.confirmCount))
    else (holdStep .confirmEarly s, .now .accepted (.confirm true r.confirmCount))
  | _, _ => refuse .notInState s

/-- CONFIRM (R126). -/
def execConfirm (tag : Nat) (body : Body Unit) (s : State) : Host.Outcome State Fault Refusal :=
  planOrder tag .confirm (withArgs body (fun _ => planGate takeConfirm)) s

/-! ## EXCHANGE and AUTO-EXCHANGE -/

/-- The Plan Unit takes an EXCHANGE (R131). -/
def takeExchange (s : State) : State × Answer :=
  if canComeIn s then accept (beginExchange .order s) else refuse .notInState s

/-- EXCHANGE (R131). -/
def execExchange (tag : Nat) (body : Body Unit) (s : State) : Host.Outcome State Fault Refusal :=
  planOrder tag .exchange (withArgs body (fun _ => planGate takeExchange)) s

/-- AUTO-EXCHANGE ON: pending, unless effective is already set (R137). -/
def execAutoExchangeOn (tag : Nat) (body : Body Unit) (s : State) : Host.Outcome State Fault Refusal :=
  planOrder tag .autoExchange (withArgs body (fun _ => planGate (fun s =>
    accept (if s.plan.autoEffective then s else { s with plan := { s.plan with autoPending := true } })))) s

/-- AUTO-EXCHANGE OFF: both parts clear; an argument that is neither ON nor OFF is refused (R137). -/
def execAutoExchangeOff (tag : Nat) (body : Body Nat) (s : State) : Host.Outcome State Fault Refusal :=
  planOrder tag .autoExchange (withArgs body (fun n => planGate (fun s =>
    if n = 0 then accept { s with plan := { s.plan with autoPending := false, autoEffective := false } }
    else refuse .outOfRange s))) s

end Sys2Proof.Machine
end

