-- ==== Sys2Proof/Machine/SetupOrders.lean ====
section
/-! DEFINITION. The meanings of the setup orders and of the completion of a SETUP-END write
(spec/11_faults_supply_and_start_up.md, section 11.4). -/

namespace Sys2Proof.Machine

open Sys2Proof

/-- The Start and Supply Unit takes a SETUP (R190). -/
def takeSetup (s : State) : State × Answer :=
  if s.start.setup then accept s
  else
    match s.start.phase with
    | .selfCheck | .enumerate => accept { s with start := { s.start with setup := true, setupCloses := 0 } }
    | _ => refuse .notInState s

/-- SETUP (R190). -/
def execSetup (tag : Nat) (body : Body Unit) (s : State) : Host.Outcome State Fault Refusal :=
  .next (takeOrder tag OrderName.setup.code (withArgs body (fun _ => takeSetup)) s)

/-- The Start and Supply Unit takes a SETUP-END: the open working table is discarded and the write begins (R193). -/
def takeSetupEnd (s : State) : State × Answer :=
  if s.start.setup then
    let s := discardOpen s
    accept { s with start := { s.start with write := some (completedTables s) } }
  else refuse .notInState s

/-- SETUP-END (R193). -/
def execSetupEnd (tag : Nat) (body : Body Unit) (s : State) : Host.Outcome State Fault Refusal :=
  .next (takeOrder tag OrderName.setupEnd.code (withArgs body (fun _ => takeSetupEnd)) s)

/-- SETUP_END_WRITE_COMPLETION: the directory copy is whole and the part restarts (R193). -/
def execSetupEndWriteCompletion (s : State) : Host.Outcome State Fault Refusal :=
  .next (match s.start.write with
    | some w => if inReset s then s else completeWrite w s
    | none => s)

/-- TABLE-LOAD (R191). -/
def execTableLoad (tag : Nat) (body : Body TablePart) (s : State) : Host.Outcome State Fault Refusal :=
  .next (takeOrder tag OrderName.tableLoad.code (withArgs body takeTablePart) s)

/-- TABLE-READ of the store (R192). -/
def takeReadStore (a : TableReadArgs) (s : State) : State × Answer :=
  if Config.tableCodes ≤ a.code then refuse .outOfRange s
  else if tableValid s.tables a.code then answerPart (imageOf s.store a.code) a.part s
  else refuse .badTable s

/-- TABLE-READ with source STORE (R192). -/
def execTableReadStore (tag : Nat) (body : Body TableReadArgs) (s : State) : Host.Outcome State Fault Refusal :=
  .next (takeOrder tag OrderName.tableRead.code (withArgs body takeReadStore) s)

/-- TABLE-READ of a completed working table (R192). -/
def takeReadWorking (a : TableReadArgs) (s : State) : State × Answer :=
  if Config.tableCodes ≤ a.code then refuse .outOfRange s
  else
    match (s.start.completed[a.code]?).getD none with
    | some bytes => answerPart bytes a.part s
    | none => refuse .notInState s

/-- TABLE-READ with source WORKING (R192). -/
def execTableReadWorking (tag : Nat) (body : Body TableReadArgs) (s : State) : Host.Outcome State Fault Refusal :=
  .next (takeOrder tag OrderName.tableRead.code (withArgs body takeReadWorking) s)

end Sys2Proof.Machine
end

