-- ==== Sys2Proof/Machine/SupplyEvents.lean ====
section
/-! DEFINITION. The meanings of the supply monitor's events, the resets (R186, R187, R178) and the end of SELF-CHECK
(R188). -/

namespace Sys2Proof.Machine

open Sys2Proof

/-- ORDERED_RESET: performed once the REPLY to RESET has been sent (R178, R186; log entry 30). -/
def execOrderedReset (s : State) : Host.Outcome State Fault Refusal :=
  .next (if s.console.resetDue && !inReset s then orderedResetWork s else s)

/-- SUPPLY_LOW_BEGIN: VSUP falls below the low level (R186, R100). -/
def execSupplyLowBegin (s : State) : Host.Outcome State Fault Refusal :=
  .next (if inReset s || s.start.vsupLow then s
    else tellSupply true { s with start := { s.start with vsupLow := true } })

/-- SUPPLY_LOW_END: VSUP rises to or above the low level (R186, R100). -/
def execSupplyLowEnd (s : State) : Host.Outcome State Fault Refusal :=
  .next (if inReset s || !s.start.vsupLow then s
    else tellSupply false { s with start := { s.start with vsupLow := false } })

/-- SUPPLY_RESET: VSUP falls below the reset level (R186, R187, R193). -/
def execSupplyReset (progress : Nat) (s : State) : Host.Outcome State Fault Refusal :=
  .next (if inReset s then s else beginSupplyReset progress s)

/-- RETENTION_LOSS: VSUP falls below the retention level during a SUPPLY reset, which becomes a POWER-ON reset (R186,
R187). -/
def execRetentionLoss (s : State) : Host.Outcome State Fault Refusal :=
  .next (if s.start.inReset = some .supply then loseRetained s else s)

/-- POWER_ON_RESET: VSUP rises from off (R186, R187; log entry 31). -/
def execPowerOnReset (progress : Nat) (s : State) : Host.Outcome State Fault Refusal :=
  .next (loseRetained (beginSupplyReset progress s))

/-- RESET_END: VSUP rises to or above the reset level; it is judged at once (R186). -/
def execResetEnd (belowLow : Bool) (s : State) : Host.Outcome State Fault Refusal :=
  .next (if inReset s then finishReset belowLow s else s)

/-- SELF_CHECK_END (R188). -/
def execSelfCheckEnd (misreads : List Nat) (s : State) : Host.Outcome State Fault Refusal :=
  .next (if s.start.phase = .selfCheck ∧ !inReset s then endSelfCheck misreads s else s)

end Sys2Proof.Machine
end

