-- ==== Sys2Proof/Machine/VoyageSettings.lean ====
section
/-! DEFINITION. The meanings of the VOYAGE-SET orders, one for each setting (R176 and the owning rule of each). -/

namespace Sys2Proof.Machine

open Sys2Proof

/-- A VOYAGE-SET with its reply place (R172, R173, R176). -/
def voyageSet {α : Type} (tag : Nat) (body : Body α) (h : α → State → State × Answer) (s : State) :
    Host.Outcome State Fault Refusal :=
  .next (takeOrder tag OrderName.voyageSet.code (withArgs body h) s)

/-- The stale limit (R12). -/
def execVoyageSetStaleLimit (tag : Nat) (body : Body Int) (s : State) : Host.Outcome State Fault Refusal :=
  voyageSet tag body (fun v => setNumber 1 20 v (fun n => writeSettings (fun c => { c with staleLimit := n.toNat }))) s

/-- The Contents Unit takes a density (R19). -/
def takeDensity (a : IndexedValue) (s : State) : State × Answer :=
  if Config.tanks ≤ a.index ∨ !tankInUse s a.index then refuse .outOfRange s
  else setNumber 500 2000 a.value (fun n => changeDensity a.index n.toNat) s

/-- The density of a tank (R19). -/
def execVoyageSetDensity (tag : Nat) (body : Body IndexedValue) (s : State) : Host.Outcome State Fault Refusal :=
  voyageSet tag body takeDensity s

/-- The Cargo Unit takes an allowance (R40). -/
def takeAllowance (a : IndexedValue) (s : State) : State × Answer :=
  if Config.holds ≤ a.index then refuse .outOfRange s
  else setNumber 0 1000000 a.value (fun n => setAllowance a.index n.toNat) s

/-- The allowance of a hold (R40). -/
def execVoyageSetAllowance (tag : Nat) (body : Body IndexedValue) (s : State) : Host.Outcome State Fault Refusal :=
  voyageSet tag body takeAllowance s

/-- The limit set a value names (R194). -/
def limitSetOf (v : Int) : Option LimitSet := if v = 0 then some .harbour else if v = 1 then some .sea else none

/-- The limit set (R57). -/
def execVoyageSetLimitSet (tag : Nat) (body : Body Int) (s : State) : Host.Outcome State Fault Refusal :=
  voyageSet tag body (fun v => setNamed (limitSetOf v) (fun l => writeEval (fun e => { e with limitSet := l }))) s

/-- Warn per mille (R57). -/
def execVoyageSetWarnPerMille (tag : Nat) (body : Body Int) (s : State) : Host.Outcome State Fault Refusal :=
  voyageSet tag body (fun v => setNumber 500 990 v (fun n => writeEval (fun e => { e with warn := n.toNat }))) s

/-- The maximum draught (R57). -/
def execVoyageSetMaximumDraught (tag : Nat) (body : Body Int) (s : State) : Host.Outcome State Fault Refusal :=
  voyageSet tag body (fun v => setNumber 0 30000 v (fun n => writeEval (fun e => { e with maxDraught := n }))) s

/-- The draught margin (R57). -/
def execVoyageSetDraughtMargin (tag : Nat) (body : Body Int) (s : State) : Host.Outcome State Fault Refusal :=
  voyageSet tag body (fun v => setNumber 0 2000 v (fun n => writeEval (fun e => { e with margin := n }))) s

/-- The Hull Evaluator takes a trim window: refused with min above max, else each bound clamped (R57). -/
def takeTrimWindow (w : TrimPair) (s : State) : State × Answer :=
  if w.max < w.min then refuse .outOfRange s
  else
    let lo := clampInt (-20000) 20000 w.min
    let hi := clampInt (-20000) 20000 w.max
    (writeEval (fun e => { e with trimMin := lo, trimMax := hi }) s,
      .now (if lo = w.min ∧ hi = w.max then .accepted else .clamped) .none)

/-- The trim window (R57). -/
def execVoyageSetTrimWindow (tag : Nat) (body : Body TrimPair) (s : State) : Host.Outcome State Fault Refusal :=
  voyageSet tag body takeTrimWindow s

/-- The draught-mismatch tolerance (R57). -/
def execVoyageSetDraughtMismatchTolerance (tag : Nat) (body : Body Int) (s : State) :
    Host.Outcome State Fault Refusal :=
  voyageSet tag body (fun v => setNumber 0 1000 v (fun n => writeEval (fun e => { e with mismatchTol := n }))) s

/-- The valve travel timeout (R101). -/
def execVoyageSetValveTravelTimeout (tag : Nat) (body : Body Int) (s : State) : Host.Outcome State Fault Refusal :=
  voyageSet tag body (fun v => setNumber 1 120 v (fun n => writeSettings (fun c => { c with valveTimeout := n.toNat }))) s

/-- The pump start timeout (R101). -/
def execVoyageSetPumpStartTimeout (tag : Nat) (body : Body Int) (s : State) : Host.Outcome State Fault Refusal :=
  voyageSet tag body (fun v => setNumber 1 60 v (fun n => writeSettings (fun c => { c with pumpTimeout := n.toNat }))) s

/-- The flow window (R101). -/
def execVoyageSetFlowWindow (tag : Nat) (body : Body Int) (s : State) : Host.Outcome State Fault Refusal :=
  voyageSet tag body (fun v => setNumber 5 120 v (fun n => writeSettings (fun c => { c with flowWindow := n.toNat }))) s

/-- The minimum flow (R101). -/
def execVoyageSetMinimumFlow (tag : Nat) (body : Body Int) (s : State) : Host.Outcome State Fault Refusal :=
  voyageSet tag body (fun v => setNumber 1 5000 v (fun n => writeSettings (fun c => { c with minFlow := n.toNat }))) s

/-- The number of stations that report windows are checked against (R152). -/
def stationCount (s : State) : Nat := (s.tables.base.map BaseRecord.nsta).getD Config.stations

/-- Whether a set of report windows passes (R152). -/
def windowsOk (s : State) (l : List Window) : Bool :=
  1 ≤ l.length && l.length ≤ Config.reportWindows && l.all (fun w => 1 ≤ w.count && w.first + w.count ≤ stationCount s)

/-- The report windows, replaced whole or refused (R152). -/
def execVoyageSetReportWindows (tag : Nat) (body : Body (List Window)) (s : State) : Host.Outcome State Fault Refusal :=
  voyageSet tag body (fun l s =>
    if windowsOk s l then accept (writeSettings (fun c => { c with windows := some l }) s) else refuse .outOfRange s) s

/-- The condition period (R156). -/
def execVoyageSetConditionPeriod (tag : Nat) (body : Body Int) (s : State) : Host.Outcome State Fault Refusal :=
  voyageSet tag body
    (fun v => setNumber 1 255 v (fun n => writeSettings (fun c => { c with conditionPeriod := n.toNat }))) s

/-- The progress period (R156). -/
def execVoyageSetProgressPeriod (tag : Nat) (body : Body Int) (s : State) : Host.Outcome State Fault Refusal :=
  voyageSet tag body
    (fun v => setNumber 1 255 v (fun n => writeSettings (fun c => { c with progressPeriod := n.toNat }))) s

/-- The line period a value names, in milliseconds (R159). -/
def linePeriodOf (v : Int) : Option Nat := if v = 100 ∨ v = 200 ∨ v = 500 then some v.toNat else none

/-- The line period; it takes effect at the next cycle mark (R159). -/
def execVoyageSetLinePeriod (tag : Nat) (body : Body Int) (s : State) : Host.Outcome State Fault Refusal :=
  voyageSet tag body (fun v => setNamed (linePeriodOf v) (fun n => writeSettings (fun c => { c with linePeriod := n }))) s

/-- Relay as a value names it (R194). -/
def relayOf (v : Int) : Option Bool := if v = 0 then some false else if v = 1 then some true else none

/-- Write relay; OFF empties the FIFO at once (R175). -/
def writeRelay (on : Bool) (s : State) : State :=
  let s := writeSettings (fun c => { c with relay := on }) s
  if on then s else { s with console := { s.console with relay := [] } }

/-- Relay (R175). -/
def execVoyageSetRelay (tag : Nat) (body : Body Int) (s : State) : Host.Outcome State Fault Refusal :=
  voyageSet tag body (fun v => setNamed (relayOf v) writeRelay) s

/-- A setting code that names no setting (R176). -/
def execVoyageSetUnknownSetting (tag : Nat) (_setting : Nat) (s : State) : Host.Outcome State Fault Refusal :=
  .next (takeOrder tag OrderName.voyageSet.code (refuse .unknown) s)

end Sys2Proof.Machine
end

