-- ==== Sys2Proof/Machine/Dispatch.lean ====
section
/-! DEFINITION. The dispatch: one arm for each command, one direct call of its meaning. -/

namespace Sys2Proof.Machine

open Sys2Proof

/-- The effect of a command on everything but the queue. -/
def exec (i : Instr) (s : State) : Host.Outcome State Fault Refusal :=
  match i with
  | .setup tag body => Sys2Proof.Machine.execSetup tag body s
  | .setupEnd tag body => Sys2Proof.Machine.execSetupEnd tag body s
  | .setupEndWriteCompletion => Sys2Proof.Machine.execSetupEndWriteCompletion s
  | .tableLoad tag body => Sys2Proof.Machine.execTableLoad tag body s
  | .tableReadStore tag body => Sys2Proof.Machine.execTableReadStore tag body s
  | .tableReadWorking tag body => Sys2Proof.Machine.execTableReadWorking tag body s
  | .voyageSetStaleLimit tag body => Sys2Proof.Machine.execVoyageSetStaleLimit tag body s
  | .voyageSetDensity tag body => Sys2Proof.Machine.execVoyageSetDensity tag body s
  | .voyageSetAllowance tag body => Sys2Proof.Machine.execVoyageSetAllowance tag body s
  | .voyageSetLimitSet tag body => Sys2Proof.Machine.execVoyageSetLimitSet tag body s
  | .voyageSetWarnPerMille tag body => Sys2Proof.Machine.execVoyageSetWarnPerMille tag body s
  | .voyageSetMaximumDraught tag body => Sys2Proof.Machine.execVoyageSetMaximumDraught tag body s
  | .voyageSetDraughtMargin tag body => Sys2Proof.Machine.execVoyageSetDraughtMargin tag body s
  | .voyageSetTrimWindow tag body => Sys2Proof.Machine.execVoyageSetTrimWindow tag body s
  | .voyageSetDraughtMismatchTolerance tag body => Sys2Proof.Machine.execVoyageSetDraughtMismatchTolerance tag body s
  | .voyageSetValveTravelTimeout tag body => Sys2Proof.Machine.execVoyageSetValveTravelTimeout tag body s
  | .voyageSetPumpStartTimeout tag body => Sys2Proof.Machine.execVoyageSetPumpStartTimeout tag body s
  | .voyageSetFlowWindow tag body => Sys2Proof.Machine.execVoyageSetFlowWindow tag body s
  | .voyageSetMinimumFlow tag body => Sys2Proof.Machine.execVoyageSetMinimumFlow tag body s
  | .voyageSetReportWindows tag body => Sys2Proof.Machine.execVoyageSetReportWindows tag body s
  | .voyageSetConditionPeriod tag body => Sys2Proof.Machine.execVoyageSetConditionPeriod tag body s
  | .voyageSetProgressPeriod tag body => Sys2Proof.Machine.execVoyageSetProgressPeriod tag body s
  | .voyageSetLinePeriod tag body => Sys2Proof.Machine.execVoyageSetLinePeriod tag body s
  | .voyageSetRelay tag body => Sys2Proof.Machine.execVoyageSetRelay tag body s
  | .voyageSetUnknownSetting tag setting => Sys2Proof.Machine.execVoyageSetUnknownSetting tag setting s
  | .holdSet tag body => Sys2Proof.Machine.execHoldSet tag body s
  | .project tag body => Sys2Proof.Machine.execProject tag body s
  | .planLoad tag body => Sys2Proof.Machine.execPlanLoad tag body s
  | .planStart tag body => Sys2Proof.Machine.execPlanStart tag body s
  | .planPause tag body => Sys2Proof.Machine.execPlanPause tag body s
  | .resume tag body => Sys2Proof.Machine.execResume tag body s
  | .skipStep tag body => Sys2Proof.Machine.execSkipStep tag body s
  | .planAbort tag body => Sys2Proof.Machine.execPlanAbort tag body s
  | .confirm tag body => Sys2Proof.Machine.execConfirm tag body s
  | .exchange tag body => Sys2Proof.Machine.execExchange tag body s
  | .autoExchangeOn tag body => Sys2Proof.Machine.execAutoExchangeOn tag body s
  | .autoExchangeOff tag body => Sys2Proof.Machine.execAutoExchangeOff tag body s
  | .faultClear tag body => Sys2Proof.Machine.execFaultClear tag body s
  | .status tag body => Sys2Proof.Machine.execStatus tag body s
  | .reset tag body => Sys2Proof.Machine.execReset tag body s
  | .unknownOrder tag code => Sys2Proof.Machine.execUnknownOrder tag code s
  | .pour body => Sys2Proof.Machine.execPour body s
  | .forward tag body => Sys2Proof.Machine.execForward tag body s
  | .inboundFrameDiscard cause => Sys2Proof.Machine.execInboundFrameDiscard cause s
  | .lineCycleMark => Sys2Proof.Machine.execLineCycleMark s
  | .commandSlot => Sys2Proof.Machine.execCommandSlot s
  | .assigned frame => Sys2Proof.Machine.execAssigned frame s
  | .answerFrame slot frame order => Sys2Proof.Machine.execAnswerFrame slot frame order s
  | .frameOutsideSlot frame => Sys2Proof.Machine.execFrameOutsideSlot frame s
  | .conversionEnd tank => Sys2Proof.Machine.execConversionEnd tank s
  | .cycleClose order => Sys2Proof.Machine.execCycleClose order s
  | .channelStale channel => Sys2Proof.Machine.execChannelStale channel s
  | .nodeSilent address => Sys2Proof.Machine.execNodeSilent address s
  | .lineBreak => Sys2Proof.Machine.execLineBreak s
  | .enumerationAddressingStop => Sys2Proof.Machine.execEnumerationAddressingStop s
  | .setupSafeSweep => Sys2Proof.Machine.execSetupSafeSweep s
  | .valveTravelTimeout pump => Sys2Proof.Machine.execValveTravelTimeout pump s
  | .pumpStartTimeout pump => Sys2Proof.Machine.execPumpStartTimeout pump s
  | .flowWindowEnd pump => Sys2Proof.Machine.execFlowWindowEnd pump s
  | .confirmLate => Sys2Proof.Machine.execConfirmLate s
  | .conditionPeriod => Sys2Proof.Machine.execConditionPeriod s
  | .progressPeriod => Sys2Proof.Machine.execProgressPeriod s
  | .evaluationBegin => Sys2Proof.Machine.execEvaluationBegin s
  | .currentCompletion order => Sys2Proof.Machine.execCurrentCompletion order s
  | .stepCompletion => Sys2Proof.Machine.execStepCompletion s
  | .orderCompletion => Sys2Proof.Machine.execOrderCompletion s
  | .transmitterFree => Sys2Proof.Machine.execTransmitterFree s
  | .transmissionComplete => Sys2Proof.Machine.execTransmissionComplete s
  | .orderedReset => Sys2Proof.Machine.execOrderedReset s
  | .supplyLowBegin => Sys2Proof.Machine.execSupplyLowBegin s
  | .supplyLowEnd => Sys2Proof.Machine.execSupplyLowEnd s
  | .supplyReset progress => Sys2Proof.Machine.execSupplyReset progress s
  | .retentionLoss => Sys2Proof.Machine.execRetentionLoss s
  | .powerOnReset progress => Sys2Proof.Machine.execPowerOnReset progress s
  | .resetEnd belowLow => Sys2Proof.Machine.execResetEnd belowLow s
  | .selfCheckEnd misreads => Sys2Proof.Machine.execSelfCheckEnd misreads s
  | .startByte => Sys2Proof.Machine.execStartByte s

end Sys2Proof.Machine
end

