-- ==== Sys2Proof/Machine/Inbound.lean ====
section
/-! DEFINITION. What command an inbound console frame is (R171, R172, R194): from the bytes that follow a start byte to
the command of Instr that stands for the frame. A body whose layout R194 refuses becomes Body.badLayout. No command's
meaning reads these functions: they say which command the world puts in the queue when given bytes arrive. -/

namespace Sys2Proof.Machine

open Sys2Proof

/-- The arguments, or a bad layout. -/
def layout {α : Type} (o : Option α) : Body α :=
  match o with
  | some a => .fields a
  | none => .badLayout

/-- An unsigned field that is not optional: none when it holds its absent marker (R194). -/
def need (bytes : List Byte) (off len : Nat) : Option Nat :=
  if fieldNat bytes off len = 256 ^ len - 1 then none else some (fieldNat bytes off len)

/-- A signed field of four bytes that is not optional (R194). -/
def needInt (bytes : List Byte) (off : Nat) : Option Int :=
  if fieldInt bytes off 4 = -2147483648 then none else some (fieldInt bytes off 4)

/-- Arguments of a given length. -/
def sized {α : Type} (bytes : List Byte) (n : Nat) (o : Option α) : Body α :=
  if bytes.length = n then layout o else .badLayout

/-- An order that carries no argument. -/
def noArgs (bytes : List Byte) : Body Unit := sized bytes 0 (some ())

/-- Arguments of one byte. -/
def oneByte (bytes : List Byte) : Body Nat := sized bytes 1 (need bytes 0 1)

/-- The arguments of a TABLE-LOAD; the part index and the check value have no absent marker (log entry 15). -/
def tableLoadArgs (b : List Byte) : Body TablePart :=
  let last := (fieldNat b 2 1).testBit 0
  let n := b.length - 3 - (if last then 2 else 0)
  if b.length < 4 ∨ n < 1 ∨ 240 < n then .badLayout
  else
    layout ((need b 0 1).map (fun code =>
      ⟨code, fieldNat b 1 1, last, field b 3 n, if last then fieldNat b (3 + n) 2 else 0⟩))

/-- A TABLE-READ: the source chooses the row, and a source that is neither 0 nor 1 is a bad layout. -/
def tableReadCommand (tag : Nat) (b : List Byte) : Instr :=
  let args : Body TableReadArgs := sized b 3 ((need b 0 1).map (fun code => ⟨code, fieldNat b 1 1⟩))
  match fieldNat b 2 1 with
  | 0 => .tableReadStore tag args
  | 1 => .tableReadWorking tag args
  | _ => .tableReadStore tag .badLayout

/-- The value of a setting that has no tank or hold: 0xFF stands in the tank or hold byte (R194; log entry 14). -/
def plainValue (b : List Byte) : Body Int := if fieldNat b 1 1 = 255 then sized b 6 (needInt b 2) else .badLayout

/-- The value of a setting held per tank or hold. -/
def indexedValue (b : List Byte) : Body IndexedValue :=
  sized b 6 ((need b 1 1).bind (fun i => (needInt b 2).map (fun v => ⟨i, v⟩)))

/-- The two values of the trim window. -/
def trimArgs (b : List Byte) : Body TrimPair :=
  if fieldNat b 1 1 = 255 then
    sized b 10 ((needInt b 2).bind (fun lo => (needInt b 6).map (fun hi => ⟨lo, hi⟩)))
  else .badLayout

/-- One report window. -/
def windowArgs (e : List Byte) : Option Window := (need e 0 1).bind (fun f => (need e 1 1).map (fun c => ⟨f, c⟩))

/-- `n` entries of `size` bytes that begin at `start`. -/
def entriesAt {α : Type} (b : List Byte) (start size n : Nat) (f : List Byte → Option α) : Option (List α) :=
  (List.range n).mapM (fun i => f (field b (start + size * i) size))

/-- The report windows: a count and that many pairs. -/
def windowsArgs (b : List Byte) : Body (List Window) :=
  let w := fieldNat b 2 1
  if fieldNat b 1 1 = 255 ∧ w ≠ 255 then sized b (3 + 2 * w) (entriesAt b 3 2 w windowArgs) else .badLayout

/-- A VOYAGE-SET by its setting code (R194); a body without one is too short, whichever row it is read as (R172). -/
def voyageCommand (tag : Nat) (b : List Byte) : Instr :=
  match b.head?.map BitVec.toNat with
  | none => .voyageSetStaleLimit tag .badLayout
  | some 1 => .voyageSetStaleLimit tag (plainValue b)
  | some 2 => .voyageSetDensity tag (indexedValue b)
  | some 3 => .voyageSetAllowance tag (indexedValue b)
  | some 4 => .voyageSetLimitSet tag (plainValue b)
  | some 5 => .voyageSetWarnPerMille tag (plainValue b)
  | some 6 => .voyageSetMaximumDraught tag (plainValue b)
  | some 7 => .voyageSetDraughtMargin tag (plainValue b)
  | some 8 => .voyageSetTrimWindow tag (trimArgs b)
  | some 9 => .voyageSetDraughtMismatchTolerance tag (plainValue b)
  | some 10 => .voyageSetValveTravelTimeout tag (plainValue b)
  | some 11 => .voyageSetPumpStartTimeout tag (plainValue b)
  | some 12 => .voyageSetFlowWindow tag (plainValue b)
  | some 13 => .voyageSetMinimumFlow tag (plainValue b)
  | some 14 => .voyageSetReportWindows tag (windowsArgs b)
  | some 15 => .voyageSetConditionPeriod tag (plainValue b)
  | some 16 => .voyageSetProgressPeriod tag (plainValue b)
  | some 17 => .voyageSetLinePeriod tag (plainValue b)
  | some 18 => .voyageSetRelay tag (plainValue b)
  | some n => .voyageSetUnknownSetting tag n

/-- A HOLD-SET. -/
def holdSetArgs (b : List Byte) : Body HoldSetArgs :=
  sized b 5 ((need b 0 1).bind (fun h => (need b 1 4).map (fun m => ⟨h, m⟩)))

/-- One substitution of a PROJECT. -/
def substitutionArgs (e : List Byte) : Option Substitution :=
  (need e 0 1).bind (fun i => (need e 1 4).map (fun m => ⟨i, m⟩))

/-- A PROJECT: a count and that many pairs. -/
def projectArgs (b : List Byte) : Body (List Substitution) :=
  let n := fieldNat b 0 1
  if n = 255 then .badLayout else sized b (1 + 5 * n) (entriesAt b 1 5 n substitutionArgs)

/-- A one-byte field of two codes, 0 and 1; no other value is among the codes listed (R194). -/
def needCode (b : List Byte) (off : Nat) : Option Nat := (need b off 1).filter (fun n => n ≤ 1)

/-- A tank entry of a PLAN-LOAD step; its action is DISCHARGE 0 or FILL 1 (R194; log entry 14). -/
def rawEntryArgs (e : List Byte) : Option RawEntry :=
  (need e 0 1).bind (fun t => (needCode e 1).bind (fun a => (need e 2 4).map (fun m => ⟨t, a, m⟩)))

/-- The hold gate of a step; 0xFF is no gate (R194). -/
def gateArgs (b : List Byte) : Option (Option HoldGate) :=
  if fieldNat b 2 1 = 255 then some none else (need b 3 4).map (fun m => some ⟨fieldNat b 2 1, m⟩)

/-- `n` steps, none left over; the margin of each is CLEAR 0 or WARNING 1 (R194; log entry 14). -/
def stepsArgs : Nat → List Byte → Option (List RawStep)
  | 0, b => if b.isEmpty then some [] else none
  | n + 1, b =>
    let e := fieldNat b 0 1
    if b.length < 7 + 6 * e ∨ e = 255 then none
    else
      match needCode b 1, gateArgs b, entriesAt b 7 6 e rawEntryArgs, stepsArgs n (b.drop (7 + 6 * e)) with
      | some m, some g, some l, some rest => some (⟨m, g, l⟩ :: rest)
      | _, _, _, _ => none

/-- A PLAN-LOAD part; the header fields stand in a first part alone, and one whose presence bit is set is a value
whatever it holds, for R108 to judge (R107, R194). -/
def planLoadArgs (b : List Byte) : Body PlanPart :=
  let flags := fieldNat b 1 1
  let first := flags.testBit 0
  let head := if first then 3 else 0
  let steps := fieldNat b (2 + head) 1
  let period := if first && flags.testBit 2 then some (fieldNat b 2 2) else none
  let share := if first && flags.testBit 3 then some (fieldNat b 4 1) else none
  if b.length < 3 + head ∨ 6 < steps then .badLayout
  else
    match need b 0 1, stepsArgs steps (b.drop (3 + head)) with
    | some c, some l => .fields ⟨c, first, flags.testBit 1, period, share, l⟩
    | _, _ => .badLayout

/-- A SKIP-STEP. -/
def skipArgs (b : List Byte) : Body SkipArgs :=
  sized b 2 ((need b 0 1).bind (fun c => (need b 1 1).map (fun i => ⟨c, i⟩)))

/-- An AUTO-EXCHANGE: 1 is ON, anything else is for R137 to judge. -/
def autoCommand (tag : Nat) (b : List Byte) : Instr :=
  if b.length = 1 ∧ fieldNat b 0 1 = 1 then .autoExchangeOn tag (.fields ()) else .autoExchangeOff tag (oneByte b)

/-- A FAULT-CLEAR. -/
def faultArgs (b : List Byte) : Body FaultArgs :=
  sized b 2 ((need b 0 1).bind (fun c => (need b 1 1).map (fun i => ⟨c, i⟩)))

/-- An ORDER by its order code (R194). -/
def orderCommand (tag code : Nat) (b : List Byte) : Instr :=
  match code with
  | 1 => .setup tag (noArgs b)
  | 2 => .setupEnd tag (noArgs b)
  | 3 => .tableLoad tag (tableLoadArgs b)
  | 4 => tableReadCommand tag b
  | 5 => voyageCommand tag b
  | 6 => .holdSet tag (holdSetArgs b)
  | 7 => .project tag (projectArgs b)
  | 8 => .planLoad tag (planLoadArgs b)
  | 9 => .planStart tag (oneByte b)
  | 10 => .planPause tag (oneByte b)
  | 11 => .resume tag (oneByte b)
  | 12 => .skipStep tag (skipArgs b)
  | 13 => .planAbort tag (oneByte b)
  | 14 => .confirm tag (noArgs b)
  | 15 => .exchange tag (noArgs b)
  | 16 => autoCommand tag b
  | 17 => .faultClear tag (faultArgs b)
  | 18 => .status tag (noArgs b)
  | 19 => .reset tag (noArgs b)
  | n => .unknownOrder tag (.fields n)

/-- A POUR body (R194). -/
def pourArgs (b : List Byte) : Body PourFrame :=
  sized b 7 (some ⟨fieldNat b 0 1, fieldNat b 1 1, fieldNat b 2 2, fieldNat b 4 2, (fieldNat b 6 1).testBit 0⟩)

/-- A FORWARD body after its tag (R194). -/
def forwardArgs (b : List Byte) : Body ForwardArgs :=
  if b.length < 2 ∨ 33 < b.length then .badLayout else layout ((need b 0 1).map (fun n => ⟨n, b.drop 1⟩))

/-- The tag of an ORDER or FORWARD, free where its body is empty (R172; log entry 17). -/
def tagOf (b : List Byte) : Nat := if b.isEmpty then Config.missingTag.toNat else fieldNat b 0 1

/-- The command of a checked frame by its kind; an ORDER too short to carry a code is badly laid out (R172; log
entry 17). -/
def commandOfBody (kind : Nat) (b : List Byte) : Instr :=
  match kind with
  | 0x10 =>
    if b.length < 2 then .unknownOrder (tagOf b) .badLayout else orderCommand (tagOf b) (fieldNat b 1 1) (b.drop 2)
  | 0x11 => .pour (pourArgs b)
  | 0x12 => .forward (tagOf b) (forwardArgs (b.drop 1))
  | _ => .inboundFrameDiscard .unknownKind

/-- The command of the bytes collected after a start byte: kind, length, body and two check bytes (R171). -/
def commandOfFrame (bytes : List Byte) : Instr :=
  let n := fieldNat bytes 1 1
  let covered := bytes.take (2 + n)
  if 250 < n then .inboundFrameDiscard .overLength
  else if fieldNat bytes (2 + n) 2 = (crc16 covered).toNat ∧ bytes.length = 4 + n then
    commandOfBody (fieldNat bytes 0 1) (covered.drop 2)
  else .inboundFrameDiscard .badCheck

end Sys2Proof.Machine
end

