-- ==== Sys2Proof/Safety.lean ====
section
/-! DEFINITION. What it is for a state to be sound: the laws of the device that the spec names, and the bounds that its
tables give, each as a property of one state. Every step keeps each of them (the statements say so). -/

namespace Sys2Proof.Safety

open Sys2Proof Sys2Proof.Machine

/-- No two elements have the same value of `f`. -/
abbrev DistinctBy {α β : Type} (f : α → β) (l : List α) : Prop := (l.map f).Nodup

/-- The law of R145: at most 24 entries, no two of the same kind and subject. -/
abbrev ReportQueueOk (s : State) : Prop :=
  s.report.queue.length ≤ Config.reportQueue ∧ DistinctBy ReportEntry.key s.report.queue

/-- The law of R180: at most 32 entries, no two of the same code and subject. -/
abbrev FaultListOk (s : State) : Prop :=
  s.fault.list.length ≤ Config.faultList ∧ DistinctBy (fun e => (e.code, e.subject)) s.fault.list

/-- The law of R185: the summary line is asserted exactly while an ACTIVE entry of priority 1 to 6 is listed or the
Condition Record is OVER. -/
abbrev SummaryOk (s : State) : Prop :=
  s.fault.summary = true ↔
    (∃ e ∈ s.fault.list, e.active = true ∧ e.code.priority ≤ 6) ∨ overallClass s = .over

/-- Places, relayed frames and FORWARD entries within their bounds (R173, R175, R168). -/
abbrev QueuesOk (s : State) : Prop :=
  s.console.places.length ≤ Config.replyPlaces ∧ s.console.relay.length ≤ Config.relayFifo ∧
    forwardCount s ≤ Config.forwardEntries ∧ s.pump.queue.length ≤ Config.requestQueue

/-- Numbers that wrap or saturate within their widths: the cycle number (R159), the evaluation number (R63), the break
count (R167), the counts that STATUS reports (R171, R173, R175), ages (R4), missed counts (R160), phase counters (R85),
the condition and progress counters (R153, R155) and the confirm counts (R105). -/
abbrev CountsOk (s : State) : Prop :=
  s.line.cycle < 256 ∧ s.line.lastClosed < 256 ∧ s.hull.counter < 65536 ∧ s.line.breakCount ≤ 3 ∧
    s.console.droppedSamples ≤ 65535 ∧ s.console.discardedFrames ≤ 65535 ∧ s.console.discardedOrders ≤ 65535 ∧
    (∀ r ∈ s.chan.recs.toList, r.age ≤ 255) ∧ (∀ r ∈ s.line.nodes.toList, r.missed ≤ 255) ∧
    (∀ r ∈ s.pump.recs.toList, r.counter ≤ 255) ∧ s.report.conditionCount ≤ 255 ∧ s.report.progressCount ≤ 255 ∧
    (ctxRec s .a).confirmCount ≤ 600 ∧ (ctxRec s .b).confirmCount ≤ 600

/-- Every voyage setting within its range (R12, R57, R101, R156, R159). -/
abbrev SettingsOk (s : State) : Prop :=
  (1 ≤ s.settings.staleLimit ∧ s.settings.staleLimit ≤ 20) ∧
    (500 ≤ s.settings.eval.warn ∧ s.settings.eval.warn ≤ 990) ∧
    (0 ≤ s.settings.eval.maxDraught ∧ s.settings.eval.maxDraught ≤ 30000) ∧
    (0 ≤ s.settings.eval.margin ∧ s.settings.eval.margin ≤ 2000) ∧
    (-20000 ≤ s.settings.eval.trimMin ∧ s.settings.eval.trimMin ≤ s.settings.eval.trimMax ∧
      s.settings.eval.trimMax ≤ 20000) ∧
    (0 ≤ s.settings.eval.mismatchTol ∧ s.settings.eval.mismatchTol ≤ 1000) ∧
    (1 ≤ s.settings.valveTimeout ∧ s.settings.valveTimeout ≤ 120) ∧
    (1 ≤ s.settings.pumpTimeout ∧ s.settings.pumpTimeout ≤ 60) ∧
    (5 ≤ s.settings.flowWindow ∧ s.settings.flowWindow ≤ 120) ∧
    (1 ≤ s.settings.minFlow ∧ s.settings.minFlow ≤ 5000) ∧
    (1 ≤ s.settings.conditionPeriod ∧ s.settings.conditionPeriod ≤ 255) ∧
    (1 ≤ s.settings.progressPeriod ∧ s.settings.progressPeriod ≤ 255) ∧
    (s.settings.linePeriod = 100 ∨ s.settings.linePeriod = 200 ∨ s.settings.linePeriod = 500)

/-- Hold records within the ranges of R37. -/
abbrev HoldsOk (s : State) : Prop :=
  ∀ r ∈ s.hold.recs.toList, r.mass ≤ Config.maxHoldMass ∧ r.allowance ≤ Config.maxHoldMass

/-- A context that is not designated neither runs nor is paused, and a RUNNING step is the current step of an ACTIVE
designated context (R129). -/
abbrev CtxOk (s : State) (c : Ctx) : Prop :=
  ((ctxRec s c).state = .active ∨ (ctxRec s c).state = .paused → c = s.plan.designated) ∧
    ∀ i < (ctxRec s c).steps.length, stepState (ctxRec s c) i = some .running →
      c = s.plan.designated ∧ i = (ctxRec s c).index ∧ (ctxRec s c).state = .active

/-- An exchange in flight names the designated context as outgoing, remembers that it was ACTIVE or PAUSED while it still
is, and finds no step of it RUNNING or GATED (R132, R133). -/
abbrev ExchangeOk (s : State) : Prop :=
  ∀ x ∈ s.plan.exchange, x.outgoing = s.plan.designated ∧
    ((designatedRec s).state = .active ∨ (designatedRec s).state = .paused → x.outState = (designatedRec s).state) ∧
    currentState s ≠ some .running ∧ currentState s ≠ some .gated

/-- The law of R129 with what it rests on. -/
abbrev DesignationOk (s : State) : Prop := CtxOk s .a ∧ CtxOk s .b ∧ ExchangeOk s

/-- RESUMABLE is set in a SUSPENDED context alone (R130). -/
abbrev ResumableOk (s : State) : Prop :=
  ((ctxRec s .a).resumable = true → (ctxRec s .a).state = .suspended) ∧
    ((ctxRec s .b).resumable = true → (ctxRec s .b).state = .suspended)

/-- A SETUP-END write is made in SETUP, SETUP stands in SELF-CHECK and ENUMERATE, and in these phases no context is ACTIVE
and no exchange in flight (R106, R127, R141, R190, R193). -/
abbrev StartOk (s : State) : Prop :=
  (s.start.write.isSome = true → s.start.setup = true) ∧
    (s.start.setup = true → s.start.phase = .selfCheck ∨ s.start.phase = .enumerate) ∧
    (s.start.phase = .selfCheck ∨ s.start.phase = .enumerate →
      (ctxRec s .a).state ≠ .active ∧ (ctxRec s .b).state ≠ .active ∧ s.plan.exchange = none)

/-- No step of a context is RUNNING. -/
abbrev NoneRuns (s : State) (c : Ctx) : Prop :=
  ∀ i < (ctxRec s c).steps.length, stepState (ctxRec s c) i ≠ some .running

/-- The law of R118 with what it rests on: while the Condition Record is OVER or INDEFINITE no step is RUNNING. -/
abbrev ConditionLawOk (s : State) : Prop :=
  DesignationOk s ∧ StartOk s ∧
    (overallClass s = .over ∨ overallClass s = .indefinite → NoneRuns s .a ∧ NoneRuns s .b)

/-- Pumps and tanks are paired both ways, a pump names a tank exactly in the stages of a service, and the request queue
holds each tank once and no tank that is served (R85 to R87). -/
abbrev PairingOk (s : State) : Prop :=
  (∀ p < Config.pumps, ∀ t < Config.tanks, (tankRec s t).serving = some p ↔ (pumpRec s p).tank = some t) ∧
    (∀ p < Config.pumps, ((pumpRec s p).tank = none ↔ (pumpRec s p).stage = .idle ∨ (pumpRec s p).stage = .failed) ∧
      ((pumpRec s p).tank.isSome = (pumpRec s p).job.isSome) ∧ ∀ t ∈ (pumpRec s p).tank, t < Config.tanks) ∧
    (∀ t < Config.tanks, ∀ p ∈ (tankRec s t).serving, p < Config.pumps) ∧
    DistinctBy ReqEntry.tank s.pump.queue ∧ (∀ e ∈ s.pump.queue, (tankRec s e.tank).serving = none) ∧
    (∀ l ∈ s.tables.tank, l.length = Config.tanks)

/-- A Tank Table as R18 lets one stand. -/
abbrev TankTableOk (s : State) : Prop :=
  ∀ l ∈ s.tables.tank, l.length = Config.tanks ∧
    ∀ f ∈ l, if f.primary.isSome then pointsOk f.points = true else f.points = []

/-- The volume that a tank's sounding points reach; 0 for a tank without any (R20). -/
def reachVolume (s : State) (t : Nat) : Nat :=
  match tankFix s t with
  | some f => if f.primary.isSome then f.lastVolume else 0
  | none => 0

/-- The law of R20, with the volume it rests on; a conversion in flight reads the density in force (R19). -/
abbrev ContentsOk (s : State) : Prop :=
  TankTableOk s ∧ ∀ t < Config.tanks, (tankRec s t).volume ≤ reachVolume s t ∧ (tankRec s t).mass ≤ capacity s t ∧
    ∀ c ∈ (tankRec s t).conv, c.density = density s t

end Sys2Proof.Safety
end

