-- ==== Sys2Proof/Certificates/Slice0/Obligations.lean ====
section
/-! DEFINITION. The statements about the part, for the provers. Each `Obligations.<Name>` is a proposition that cites the
rules it formalises; the vocabulary they share stands first, in the namespace Claims. -/

namespace Sys2Proof.Claims

open Sys2Proof Sys2Proof.Machine

/-! ## Frames -/

/-- The blocks of the state. -/
inductive Block where
  | settings | tables | store | chan | tank | hold | hull | pump | plan | report | line | console | fault | start
  | close | pending
deriving DecidableEq, Repr

/-- A block is the same in two states. -/
def Block.same (s t : State) : Block → Prop
  | .settings => t.settings = s.settings
  | .tables => t.tables = s.tables
  | .store => t.store = s.store
  | .chan => t.chan = s.chan
  | .tank => t.tank = s.tank
  | .hold => t.hold = s.hold
  | .hull => t.hull = s.hull
  | .pump => t.pump = s.pump
  | .plan => t.plan = s.plan
  | .report => t.report = s.report
  | .line => t.line = s.line
  | .console => t.console = s.console
  | .fault => t.fault = s.fault
  | .start => t.start = s.start
  | .close => t.close = s.close
  | .pending => t.pending = s.pending

/-- Every block outside the list is as it was. -/
def OnlyChanges (blocks : List Block) (s t : State) : Prop := ∀ b, b ∉ blocks → b.same s t

/-! ## Orders -/

/-- The part takes console frames, and a place is free in the reply queue (R173). -/
abbrev Hears (s : State) : Prop := s.start.inReset = none ∧ s.console.places.length < 8

/-- The part takes orders: it hears, and neither a SETUP-END write nor a pending RESET refuses them (R178, R193). -/
abbrev TakesOrders (s : State) : Prop := Hears s ∧ s.start.write = none ∧ s.console.resetPending = false

/-- The part takes plan orders: it takes orders, outside SETUP, from ANNOUNCE on, with no exchange in flight (R106). -/
abbrev TakesPlanOrders (s : State) : Prop :=
  TakesOrders s ∧ s.start.setup = false ∧ s.start.phase ≠ .selfCheck ∧ s.start.phase ≠ .enumerate ∧
    s.plan.exchange = none

/-- The state with the receiver hunting again (R171). -/
def heard (s : State) : State := { s with console := { s.console with collecting := false } }

/-- The state with a READY reply placed for an order (R173). -/
def answered (tag order : Nat) (code : ReplyCode) (body : ReplyBody) (s : State) : State :=
  { s with console := { s.console with places := s.console.places ++ [⟨tag, order, .ready code body⟩] } }

/-- A refusal: the reply is placed and nothing else changes. -/
def refusedAs (tag order : Nat) (code : ReplyCode) (s : State) : State := answered tag order code .none (heard s)

/-- The tag and order code of an ORDER or FORWARD (R172, R194); the code of one too short to hold it is a free value (log
entry 17). -/
def orderFrame : Instr → Option (Nat × Nat)
  | .setup tag _ => some (tag, 1)
  | .setupEnd tag _ => some (tag, 2)
  | .tableLoad tag _ => some (tag, 3)
  | .tableReadStore tag _ => some (tag, 4)
  | .tableReadWorking tag _ => some (tag, 4)
  | .voyageSetStaleLimit tag _ => some (tag, 5)
  | .voyageSetDensity tag _ => some (tag, 5)
  | .voyageSetAllowance tag _ => some (tag, 5)
  | .voyageSetLimitSet tag _ => some (tag, 5)
  | .voyageSetWarnPerMille tag _ => some (tag, 5)
  | .voyageSetMaximumDraught tag _ => some (tag, 5)
  | .voyageSetDraughtMargin tag _ => some (tag, 5)
  | .voyageSetTrimWindow tag _ => some (tag, 5)
  | .voyageSetDraughtMismatchTolerance tag _ => some (tag, 5)
  | .voyageSetValveTravelTimeout tag _ => some (tag, 5)
  | .voyageSetPumpStartTimeout tag _ => some (tag, 5)
  | .voyageSetFlowWindow tag _ => some (tag, 5)
  | .voyageSetMinimumFlow tag _ => some (tag, 5)
  | .voyageSetReportWindows tag _ => some (tag, 5)
  | .voyageSetConditionPeriod tag _ => some (tag, 5)
  | .voyageSetProgressPeriod tag _ => some (tag, 5)
  | .voyageSetLinePeriod tag _ => some (tag, 5)
  | .voyageSetRelay tag _ => some (tag, 5)
  | .voyageSetUnknownSetting tag _ => some (tag, 5)
  | .holdSet tag _ => some (tag, 6)
  | .project tag _ => some (tag, 7)
  | .planLoad tag _ => some (tag, 8)
  | .planStart tag _ => some (tag, 9)
  | .planPause tag _ => some (tag, 10)
  | .resume tag _ => some (tag, 11)
  | .skipStep tag _ => some (tag, 12)
  | .planAbort tag _ => some (tag, 13)
  | .confirm tag _ => some (tag, 14)
  | .exchange tag _ => some (tag, 15)
  | .autoExchangeOn tag _ => some (tag, 16)
  | .autoExchangeOff tag _ => some (tag, 16)
  | .faultClear tag _ => some (tag, 17)
  | .status tag _ => some (tag, 18)
  | .reset tag _ => some (tag, 19)
  | .unknownOrder tag (.fields code) => some (tag, code)
  | .unknownOrder tag .badLayout => some (tag, Config.missingCode.toNat)
  | .forward tag _ => some (tag, 0)
  | _ => none

/-- Whether a command is the STATUS order, which neither a write nor a pending RESET refuses (R177, R193). -/
def isStatus : Instr → Bool
  | .status _ _ => true
  | _ => false

/-- Whether a command carries arguments whose layout R194 refuses. -/
def badlyLaidOut : Instr → Bool
  | .setup _ .badLayout | .setupEnd _ .badLayout | .tableLoad _ .badLayout | .tableReadStore _ .badLayout
  | .tableReadWorking _ .badLayout | .voyageSetStaleLimit _ .badLayout | .voyageSetDensity _ .badLayout
  | .voyageSetAllowance _ .badLayout | .voyageSetLimitSet _ .badLayout | .voyageSetWarnPerMille _ .badLayout
  | .voyageSetMaximumDraught _ .badLayout | .voyageSetDraughtMargin _ .badLayout | .voyageSetTrimWindow _ .badLayout
  | .voyageSetDraughtMismatchTolerance _ .badLayout | .voyageSetValveTravelTimeout _ .badLayout
  | .voyageSetPumpStartTimeout _ .badLayout | .voyageSetFlowWindow _ .badLayout | .voyageSetMinimumFlow _ .badLayout
  | .voyageSetReportWindows _ .badLayout | .voyageSetConditionPeriod _ .badLayout
  | .voyageSetProgressPeriod _ .badLayout | .voyageSetLinePeriod _ .badLayout | .voyageSetRelay _ .badLayout
  | .holdSet _ .badLayout | .project _ .badLayout | .planLoad _ .badLayout | .planStart _ .badLayout
  | .planPause _ .badLayout | .resume _ .badLayout | .skipStep _ .badLayout | .planAbort _ .badLayout
  | .confirm _ .badLayout | .exchange _ .badLayout | .autoExchangeOn _ .badLayout | .autoExchangeOff _ .badLayout
  | .faultClear _ .badLayout | .status _ .badLayout | .reset _ .badLayout | .forward _ .badLayout
  | .unknownOrder _ .badLayout => true
  | _ => false

/-- The commands that act while the part is in a reset (log entry 8). -/
def actsInReset : Instr → Bool
  | .retentionLoss | .powerOnReset _ | .resetEnd _ => true
  | _ => false

/-- A value within two bounds, or the nearer bound. -/
def within (lo hi v : Int) : Int := max lo (min hi v)

/-- The outcome of a numeric setting (R176). -/
def clampCode (lo hi v : Int) : ReplyCode := if lo ≤ v ∧ v ≤ hi then .accepted else .clamped

/-- The state with its settings changed by a VOYAGE-SET of a number (R176). -/
def numberSet (tag : Nat) (lo hi v : Int) (f : Settings → Settings) (s : State) : State :=
  answered tag 5 (clampCode lo hi v) .none { heard s with settings := f s.settings }

/-- The state with its settings changed by an accepted VOYAGE-SET. -/
def namedSet (tag : Nat) (f : Settings → Settings) (s : State) : State :=
  answered tag 5 .accepted .none { heard s with settings := f s.settings }

/-- The plan's work `u`, with the PROGRESS reports it posts and the reply (R110; log entry 11). -/
def planAnswered (tag order : Nat) (body : ReplyBody) (s u : State) : State :=
  answered tag order .accepted body (withProgress (fun _ => u) (heard s))

/-- A part of a TABLE-LOAD that goes on from what is held: part 0 from nothing, a later part from the open table whose
last part it follows (R191). -/
def Continues (s : State) (p : TablePart) (held : List Byte) : Prop :=
  (p.part = 0 ∧ held = []) ∨
    (∃ k, p.part = k + 1 ∧ s.start.openTable = some ⟨p.code, held⟩ ∧ s.start.lastPart = some ⟨p.code, k⟩)

/-- The part `k` of a table read back: 240 bytes, and the check value with the last part (R192; log entry 19). -/
def readBack (bytes : List Byte) (k : Nat) : ReplyBody :=
  .tableRead ((bytes.drop (240 * k)).take 240) (if bytes.length ≤ 240 * (k + 1) then some (crc16 bytes).toNat else none)

/-- The state with a LOADER report posted for a hold (R51). -/
def loaderPosted (h : Nat) (stop : Bool) (s : State) : State :=
  post (.loader ⟨h, stop, (holdRec s h).mass, (holdRec s h).allowance, overallClass s, s.line.lastClosed⟩) s

/-- A report of the queue. -/
abbrev Queued (s : State) (r : Report) : Prop := ∃ e ∈ s.report.queue, e.report = r

/-- An ACTIVE entry of the Fault List. -/
abbrev Listed (s : State) (code : FaultCode) (subject : Nat) : Prop :=
  ∃ e ∈ s.fault.list, e.code = code ∧ e.subject = subject ∧ e.active = true

/-- The slots of the line cycle are passing: after its command slot, before its close, outside a reset. -/
abbrev SlotsPassing (s : State) : Prop := s.start.inReset = none ∧ s.line.part = .afterSlot ∧ s.close.begun = false

/-- A cycle close can come, and none of its steps has been taken. -/
abbrev CloseDue (s : State) : Prop := SlotsPassing s ∧ s.close.taken = []

/-- The blocks that a reset brings to their reset values whatever its kind. -/
def Restarted (t : State) : Prop :=
  t.settings = Settings.reset ∧ t.chan = ChannelState.reset ∧ t.hull = HullState.reset ∧
    t.line = LineState.reset ∧ t.console = ConsoleState.reset ∧ t.start.phase = .selfCheck ∧ t.start.setup = false ∧
    t.start.write = none ∧ t.start.openTable = none ∧ (∀ k < 64, tankRec t k = TankRec.reset) ∧
    ∀ p < 4, pumpRec t p = PumpRec.reset

/-- The retained area as a SUPPLY or ORDERED reset keeps it, with a RUNNING or GATED step HELD (RESTART) and an ACTIVE
context PAUSED (R127, R129, R187). -/
def Retained (s t : State) : Prop :=
  t.hold.recs = s.hold.recs ∧ (∀ k < 64, density t k = (tankRec s k).newDensity.getD (density s k)) ∧
    t.plan.designated = s.plan.designated ∧ t.plan.exchange = none ∧ t.plan.autoPending = false ∧
    t.plan.autoEffective = false ∧ t.plan.recheckOwed = s.plan.recheckOwed ∧
    ∀ c, (ctxRec t c).plan = (ctxRec s c).plan ∧ (ctxRec t c).index = (ctxRec s c).index ∧
      (ctxRec t c).state = (if (ctxRec s c).state = .active then .paused else (ctxRec s c).state) ∧
      (ctxRec t c).steps.map StepRec.done = (ctxRec s c).steps.map StepRec.done ∧
      (∀ k, stepState (ctxRec t c) k =
        if stepState (ctxRec s c) k = some .running ∨ stepState (ctxRec s c) k = some .gated
          then some (.held .restart) else stepState (ctxRec s c) k) ∧
      (ctxRec t c).asked = false ∧ (ctxRec t c).resumable = false

/-- The source R29 chooses from a tank's views, none when it has no usable source. -/
def sourceNow (s : State) (k : Nat) (r : TankRec) : Option Role :=
  if r.viewP.validity ≠ .lost then some .primary
  else if ((tankFix s k).bind TankFix.secondary).isSome ∧ r.viewS.validity ≠ .lost then some .secondary
  else none

/-- The class R30 gives a tank. -/
def classNow (s : State) (k : Nat) (r : TankRec) : TankClass :=
  if tankInUse s k = false then .good
  else if s.tables.tank = none ∨ s.tables.channel = none ∨ r.misBound = true then .indefinite
  else
    match sourceNow s k r with
    | none => .indefinite
    | some x => if (r.view x).validity = .held ∨ (r.view x).cls = some .over ∨ (r.view x).cls = some .under ∨
        r.disagreement = true then .degraded else .good

/-- A channel is the one that a tank's entry names for a role, and the tank is not mis-bound (R28, R36). -/
def Names (s : State) (k : Nat) (role : Role) (c : Nat) : Prop :=
  (∃ f, tankFix s k = some f ∧ f.channel role = some c) ∧ (tankRec s k).misBound = false

/-- What the judgement that follows an update of a view makes of a tank (R29, R31): its source, its disagreement with
the message to the Fault Unit, and nothing of any other tank. -/
def Judged (s t : State) (k : Nat) : Prop :=
  let r := tankRec s k
  let u := tankRec t k
  let told := if r.disagreement = u.disagreement then s
    else if u.disagreement then tellActive .gaugeDisagree k s else tellEnded .gaugeDisagree k s
  OnlyChanges [.tank, .report, .fault] s t ∧ (∀ j ≠ k, tankRec t j = tankRec s j) ∧
    t.tank.density = s.tank.density ∧ t.tank.convTrim = s.tank.convTrim ∧
    u.source = (sourceNow s k u).getD r.source ∧
    (u.disagreement = true ↔ ∃ f p q, tankFix s k = some f ∧ f.secondary ≠ none ∧ u.viewP.validity = .fresh ∧
      u.viewS.validity = .fresh ∧ u.viewP.sounding = some p ∧ u.viewS.sounding = some q ∧ f.tolerance <
        ((correctedSounding f s.tank.convTrim p : Int) - correctedSounding f s.tank.convTrim q).natAbs) ∧
    t.fault = told.fault ∧ t.report = told.report

/-- A conversion begins with the trim and density in force, or waits for the one in flight; the class waits for its end
(R27, R30). -/
def Converts (s t : State) (k : Nat) (q : ConvRequest) : Prop :=
  let r := tankRec s k
  let u := tankRec t k
  u.cls = r.cls ∧ (r.conv = none → u.conv = some ⟨q, s.tank.convTrim, density s k⟩ ∧ u.waiting = r.waiting) ∧
    (r.conv ≠ none → u.conv = r.conv ∧ u.waiting = r.waiting ++ [q])

/-- No conversion begins, and the class is written at once (R30). -/
def GradedAtOnce (s t : State) (k : Nat) : Prop :=
  (tankRec t k).conv = (tankRec s k).conv ∧ (tankRec t k).waiting = (tankRec s k).waiting ∧
    (tankRec t k).cls = classNow s k (tankRec t k)

/-- Both sides of a release: the pump takes a stage without a command and names no tank, the tank has no serving pump
(R86), and the pump's postings set nothing any more (R89). -/
def released (p k : Nat) (stage : PumpStage) (clean : Bool) (s : State) : State :=
  { s with
    pump := { s.pump with
      recs := s.pump.recs.setIfInBounds p
        { pumpRec s p with stage := stage, tank := none, job := none, clean := clean }
      postings := s.pump.postings.map (fun q => if q.watch = some p then ⟨none⟩ else q) }
    tank := { s.tank with recs := s.tank.recs.setIfInBounds k { tankRec s k with serving := none } } }

/-- The FAULT report of an entry posted with the entry's state, and the report owed flag of that entry: set exactly when
the post is dropped (R145, R150, R183). -/
def faultPosted (e : FaultEntry) (s : State) : State :=
  let q := postQueue (.fault ⟨e.code, e.subject, e.firstCycle, e.active, s.line.lastClosed⟩) s.report.queue
  { s with
    report := { s.report with queue := q.queue }
    fault := { s.fault with list := s.fault.list.map (fun y =>
      if y.code = e.code ∧ y.subject = e.subject then { y with owed := decide (q.outcome = .dropped) } else y) } }

/-- A pump's phase counter at its setting while a tank is paired: in OPENING a valve fault, in CLOSING one with the end of
the service, in STARTING and STOPPING a failure of the pump, in RUNNING the flow check (R91, R92, R94, R95, R97, R99). -/
def pumpExpired (p k : Nat) (s : State) : State :=
  let r := pumpRec s p
  let t := tankRec s k
  let troubled := setPump p { r with trouble := true } s
  let moved := t.service.any (fun v =>
    decide ((v.action = .discharge ∧ t.mass + s.settings.minFlow ≤ r.startMass) ∨
      (v.action = .fill ∧ r.startMass + s.settings.minFlow ≤ t.mass)))
  match r.stage with
  | .opening => stopPump p k (askHold r.job .valve (tellActive .valveFault k troubled))
  | .closing => arbiter (planRelease p k false (released p k .idle false (tellActive .valveFault k troubled)))
  | .starting | .stopping =>
    let sent := postCommand none (valveOutput s k) .closeValve
      (postCommand none (starterOutput s p) .stop (tellActive .pumpFailed p troubled))
    let u := planRelease p k false (released p k .failed false sent)
    match r.job with
    | some (c, i) => if tankRuns u r.job k = true ∧ tankDone u k = false then requestPump ⟨k, c, i⟩ u else u
    | none => u
  | .running => if t.cls = .indefinite ∨ moved = true then setPump p { r with counter := 0, startMass := t.mass } s
      else askHold r.job .noFlow s
  | _ => s

/-- A pump's phase counter at a cycle close: in OPENING it rises while its command is placed and the supply is not low, in
STARTING, STOPPING and CLOSING while its command is placed, in RUNNING always, and at the setting of its stage it expires
(R89, R99, R100, R101). -/
def pumpCounted (p : Nat) (s : State) : State :=
  let r := pumpRec s p
  let count := bump 255 r.counter
  let counted := setPump p { r with counter := count } s
  let rises := (r.stage = .opening ∧ r.placed = true ∧ s.pump.supplyLow = false) ∨
    ((r.stage = .starting ∨ r.stage = .stopping ∨ r.stage = .closing) ∧ r.placed = true) ∨ r.stage = .running
  let limit := if r.stage = .opening ∨ r.stage = .closing then s.settings.valveTimeout
    else if r.stage = .running then s.settings.flowWindow else s.settings.pumpTimeout
  if ¬ rises then s
  else
    match r.tank with
    | some k => if limit ≤ count then pumpExpired p k counted else counted
    | none => counted

/-- The confirm count of a RUNNING step at a cycle close, and its hold CONFIRM-LATE at the confirm period (R125). -/
def confirmCounted (s : State) : State :=
  let r := designatedRec s
  let count := bump 600 r.confirmCount
  match r.plan with
  | none => s
  | some p =>
    if currentState s ≠ some .running then s
    else if r.confirmCount + 1 < p.period then setCtx s.plan.designated { r with confirmCount := count } s
    else withProgress (fun _ => stopAll (stepTanks r r.index)
      (setCtx s.plan.designated { r.putStep r.index (.held .confirmLate) with confirmCount := count } s)) s

/-- Whether LINE-BREAK is raised where an enumeration ends: no address was assigned though the Line Map names a node
(R167). -/
abbrev NoneAnswered (s : State) : Prop :=
  (∀ a, 1 ≤ a → a ≤ 30 → (nodeRec s a).state = .absent) ∧ ∃ a, 1 ≤ a ∧ a ≤ 30 ∧ mapEntry s a ≠ none

/-- What the end of an enumeration leaves, once the Fault Unit was told as in `told`: in SETUP its count of closes begins,
and outside it ANNOUNCE begins with its IDENT (R189; log entries 24 and 33). `s` is the part as the end found it. -/
def EnumerationEnded (s told t : State) : Prop :=
  t.fault = told.fault ∧
    (s.start.setup = true → t.start = { s.start with setupCloses := 0 } ∧ t.report = told.report ∧ t.chan = s.chan) ∧
    (s.start.setup = false → t.start = { s.start with phase := .announce, sweep := .awaitingMark } ∧
      t.report = ⟨(postQueue (.ident (identReport s)) told.report.queue).queue, 0, 0⟩ ∧
      ∀ c < 96, chanRec t c = if (chanRec s c).everValid = true then chanRec s c else { chanRec s c with age := 0 })

/-- A node's missed count at a cycle close, which makes an ACTIVE node SILENT at 3 once enumeration has ended (R166). -/
def missCounted (s : State) (a : Nat) : State :=
  let n := nodeRec s a
  let missed := bump 255 n.missed
  if a ∈ s.line.slots ∧ a ∉ s.line.heard then
    if s.line.enumeration = .ended ∧ n.state = .active ∧ 3 ≤ missed then
      tellActive .nodeSilent a (setNode a { n with missed := missed, state := .silent } s)
    else setNode a { n with missed := missed } s
  else s

/-- The break count at a cycle close, which raises LINE-BREAK when it reaches 3 (R167). -/
def breakCounted (s : State) : State :=
  let counted (n : Nat) : State := { s with line := { s.line with breakCount := n } }
  if s.line.enumeration ≠ .ended then s
  else if s.line.heard ≠ [] then counted 0
  else if s.line.slots = [] then s
  else if s.line.breakCount = 2 then tellActive .lineBreak 0 (counted 3)
  else counted (bump 3 s.line.breakCount)

/-- The assignment slot of the cycle at its close: the unanswered count, and the stop of addressing (R162). -/
def assignCounted (s : State) : State :=
  match s.line.enumeration with
  | .giving a u =>
    let n := if s.line.assign = .placed ∨ s.line.assign = .failed then u + 1 else u
    let t : State := { s with line := { s.line with enumeration := .giving a n, assign := .none } }
    if 30 < a ∨ 3 ≤ n then stopAddressing t else t
  | _ => { s with line := { s.line with assign := .none } }

/-- The Report Unit at a cycle close: every report eligible, then the condition counter, then the progress counter, each
with its report at its period (R147, R153, R155; log entry 56). -/
def reportsCounted (s : State) : State :=
  let eligible : State := { s with report := { s.report with
    queue := s.report.queue.map (fun e => { e with eligible := true }) } }
  let condition := bump 255 s.report.conditionCount
  let progress := bump 255 s.report.progressCount
  let runs := (designatedRec s).state = .active ∨ (designatedRec s).state = .paused
  let toC (n : Nat) (u : State) : State := { u with report := { u.report with conditionCount := n } }
  let toP (n : Nat) (u : State) : State := { u with report := { u.report with progressCount := n } }
  if announced s = false then eligible
  else
    let u := if s.settings.conditionPeriod ≤ condition then post (.condition (conditionReport s)) (toC 0 eligible)
      else toC condition eligible
    if ¬ runs then toP 0 u
    else if s.settings.progressPeriod ≤ progress then
      post (.progress (progressReport s s.plan.designated)) (toP 0 u)
    else toP progress u

/-- The Start and Supply Unit at a cycle close: a safe sweep at each 50th close spent in SETUP, and RUN after READY (R189,
R190). -/
def startCounted (s : State) : State :=
  let start := if s.start.phase = .ready then { s.start with phase := .run } else s.start
  if s.start.setup = true ∧ s.line.enumeration = .ended then
    if 49 ≤ s.start.setupCloses then
      { s with start := { start with setupCloses := 0 }, line := { s.line with sweep := sweepList s } }
    else { s with start := { start with setupCloses := s.start.setupCloses + 1 } }
  else { s with start := start }

/-- The ALERT of a subject whose class changed (R148). -/
def changedAlert (subject : Nat) (o n : CondClass) (number : Nat) (v1 v2 : Option Int) (p1 p2 : Option Nat)
    (a : AlertReport) : Prop :=
  o ≠ n ∧ a = ⟨subject, o, n, if o.rank < n.rank then n else o, number, v1, v2, p1, p2⟩

end Sys2Proof.Claims

open Sys2Proof Sys2Proof.Machine Sys2Proof.Claims

/-! ## The machine -/

/-- With a command waiting, a step is exec of the command at the front of the queue on the state with the queue's rest;
with none waiting, the part idles (log entry 1). No command stops the part, and none touches the queue of those that wait
(log entry 7: an event that cannot occur in the present state has no effect). -/
def Obligations.StepTakesFrontCommand : Prop :=
  (∀ (s : State) (c : Instr) (rest : List Instr), s.pending = c :: rest → step s = exec c { s with pending := rest }) ∧
    (∀ s : State, s.pending = [] → step s = .next s) ∧
    ∀ (i : Instr) (s : State), ∃ t, exec i s = .next t ∧ t.pending = s.pending

/-- What the part holds right after a POWER-ON reset (log entry 2): every setting at its default, every record at its reset
value (R4, R12, R19, R21, R39, R57, R64, R85, R101, R127, R129, R156). It meets the laws of R20, R86, R118, R129, R130,
R145, R180 and R185, and the bounds of queues, counters, settings and holds. -/
def Obligations.ResetValues : Prop :=
  let s := State.reset
  (s.settings.staleLimit = 5 ∧ s.settings.eval.limitSet = .harbour ∧ s.settings.eval.warn = 900 ∧
    s.settings.eval.maxDraught = 30000 ∧ s.settings.eval.margin = 300 ∧ s.settings.eval.trimMin = 0 ∧
    s.settings.eval.trimMax = 4000 ∧ s.settings.eval.mismatchTol = 150 ∧ s.settings.valveTimeout = 30 ∧
    s.settings.pumpTimeout = 15 ∧ s.settings.flowWindow = 20 ∧ s.settings.minFlow = 50 ∧
    s.settings.conditionPeriod = 5 ∧ s.settings.progressPeriod = 25 ∧ s.settings.linePeriod = 200 ∧
    s.settings.relay = true) ∧
  (∀ c < 96, chanRec s c = ⟨.lost, 0, false, none, none, false, false⟩) ∧
  (∀ t < 64, (tankRec s t).volume = 0 ∧ (tankRec s t).mass = 0 ∧ (tankRec s t).cls = .indefinite ∧
    (tankRec s t).rate = none ∧ (tankRec s t).serving = none ∧ density s t = 1025) ∧
  (∀ h < 12, (holdRec s h).mass = 0 ∧ (holdRec s h).allowance = 1000000 ∧ (holdRec s h).phase = .empty ∧
    (holdRec s h).unsure = false ∧ (holdRec s h).stopRequested = false) ∧
  (∀ p < 4, (pumpRec s p).stage = .idle ∧ (pumpRec s p).tank = none) ∧
  s.hull.engine = none ∧ s.hull.condition = none ∧ overallClass s = .indefinite ∧
  (ctxRec s .a).state = .empty ∧ (ctxRec s .b).state = .empty ∧ s.plan.designated = .a ∧
  s.plan.autoPending = false ∧ s.plan.autoEffective = false ∧ s.report.queue = [] ∧ s.fault.list = [] ∧
  s.fault.summary = false ∧ s.start.phase = .selfCheck ∧
  (Safety.ReportQueueOk s ∧ Safety.FaultListOk s ∧ Safety.SummaryOk s ∧ Safety.QueuesOk s ∧ Safety.CountsOk s ∧
    Safety.SettingsOk s ∧ Safety.HoldsOk s ∧ Safety.ResumableOk s ∧ Safety.ConditionLawOk s ∧ Safety.PairingOk s ∧
    Safety.ContentsOk s)

/-- The graded fixed tables change at the end of a SELF-CHECK alone, and are then what the store holds; and the store
changes only where a SETUP-END write completes or is cut off by a reset, which leaves both directory copies as they were
unless one of them was being written (R56, R188, R193). -/
def Obligations.FixedTablesChangeInWritesAlone : Prop :=
  ∀ (i : Instr) (s t : State), exec i s = .next t →
    (t.tables ≠ s.tables →
      ∃ misreads, i = .selfCheckEnd misreads ∧ s.start.phase = .selfCheck ∧ t.tables = gradeTables s.store misreads) ∧
    (t.store ≠ s.store → ∃ w, s.start.write = some w ∧
      (i = .setupEndWriteCompletion ∨
        (t.store.dirA = s.store.dirA ∧ t.store.dirB = s.store.dirB ∧ i = .orderedReset) ∨
        ∃ progress, (i = .supplyReset progress ∨ i = .powerOnReset progress) ∧
          (progress ≤ imageBytes w → t.store.dirA = s.store.dirA ∧ t.store.dirB = s.store.dirB)))

/-! ## Laws of the device and bounds -/

/-- The law of R145: the Report Queue never holds more than 24 entries or two of the same kind and subject. -/
def Obligations.ReportQueueLawKept : Prop :=
  ∀ s t : State, step s = .next t → Safety.ReportQueueOk s → Safety.ReportQueueOk t

/-- The law of R180: the Fault List never holds more than 32 entries or two of the same code and subject. -/
def Obligations.FaultListLawKept : Prop :=
  ∀ s t : State, step s = .next t → Safety.FaultListOk s → Safety.FaultListOk t

/-- The law of R185: the summary line is asserted exactly while an ACTIVE entry of priority 1 to 6 is listed or the
Condition Record is OVER. -/
def Obligations.SummaryLawKept : Prop :=
  ∀ s t : State, step s = .next t → Safety.SummaryOk s → Safety.SummaryOk t

/-- Reply places, relay FIFO, FORWARD entries and pump requests stay within their bounds (R87, R168, R173, R175). The cycle
and evaluation numbers, the break count, the counts that STATUS reports, channel ages, missed counts, pump phase counters,
the condition and progress counters and the confirm counts stay within their widths (R4, R63, R85, R105, R153, R155, R159,
R160, R167, R171, R173, R175). Every voyage setting, hold mass and allowance stays within its range (R12, R37, R57, R101,
R156, R159). -/
def Obligations.BoundsKept : Prop :=
  ∀ s t : State, step s = .next t →
    (Safety.QueuesOk s → Safety.QueuesOk t) ∧ (Safety.CountsOk s → Safety.CountsOk t) ∧
      (Safety.SettingsOk s → Safety.SettingsOk t) ∧ (Safety.HoldsOk s → Safety.HoldsOk t)

/-- The law of R129: only the designated context is ever ACTIVE or PAUSED or holds a RUNNING step; and RESUMABLE is set in
a SUSPENDED context alone (R130). -/
def Obligations.DesignationLawKept : Prop :=
  ∀ s t : State, step s = .next t → Safety.DesignationOk s →
    Safety.DesignationOk t ∧ (Safety.ResumableOk s → Safety.ResumableOk t)

/-- The law of R86: a pump record names a tank exactly when the tank's record names the pump. -/
def Obligations.PairingLawKept : Prop :=
  ∀ s t : State, step s = .next t → Safety.PairingOk s → Safety.PairingOk t

/-- The law of R20: every tank's mass lies between 0 and its capacity mass. -/
def Obligations.ContentsLawKept : Prop :=
  ∀ s t : State, step s = .next t → Safety.ContentsOk s → Safety.ContentsOk t

/-- The law of R113: a step comes to be RUNNING only at the completion of a STEP projection that names it, at or below
its margin, while the Condition Record is CLEAR or WARNING. Its gate is met, and no pump serves a tank of it. -/
def Obligations.StepRunsOnlyWhenAdmitted : Prop :=
  ∀ (i : Instr) (s t : State) (c : Ctx) (k : Nat), exec i s = .next t →
    stepState (ctxRec t c) k = some .running → stepState (ctxRec s c) k ≠ some .running →
    i = .stepCompletion ∧ c = s.plan.designated ∧ (ctxRec s c).index = k ∧ (ctxRec s c).state = .active ∧
      stepState (ctxRec s c) k = some .gated ∧ (overallClass s = .clear ∨ overallClass s = .warning) ∧
      ∃ run req st, s.hull.engine = some run ∧ run.kind = .step req ∧ req.ctx = c ∧ req.step = k ∧
        planStep (ctxRec s c) k = some st ∧ (∀ g ∈ st.gate, g.minMass ≤ (holdRec s g.hold).mass) ∧
        (∀ e ∈ st.entries, (tankRec s e.tank).serving = none) ∧
        ((evaluate s.tables run.number run.snap).overall = .clear ∨
          ((evaluate s.tables run.number run.snap).overall = .warning ∧ st.margin = .warning))

/-- The law of R118: while the Condition Record is OVER or INDEFINITE, no step of either context is RUNNING, with the laws
it rests on: that of R129, and that SETUP, its write and the phases before ANNOUNCE find no context ACTIVE and no exchange
in flight (R106, R127, R141, R190, R193). -/
def Obligations.ConditionLawKept : Prop :=
  ∀ s t : State, step s = .next t → Safety.ConditionLawOk s → Safety.ConditionLawOk t

/-! ## Orders and frames in general -/

/-- While the part is in a reset, no command changes anything but those of the reset itself (log entry 8). Outside it an
ORDER or FORWARD that finds 8 places held is discarded and counted; one that a SETUP-END write or a pending RESET refuses is
answered BUSY; one badly laid out is answered OUT-OF-RANGE (R172, R173, R178, R193; the order of these refusals is log
entry 13). The statement covers an unknown order too short to hold a code: that it is badly laid out, and that its reply
carries a code nothing constrains, is the model's choice (log entry 17). -/
def Obligations.OrdersRefused : Prop :=
  (∀ (i : Instr) (s : State), s.start.inReset ≠ none → actsInReset i = false → exec i s = .next s) ∧
  ∀ (i : Instr) (s : State) (tag order : Nat), orderFrame i = some (tag, order) → s.start.inReset = none →
    (8 ≤ s.console.places.length →
      exec i s = .next { heard s with console := { (heard s).console with
        discardedOrders := if s.console.discardedOrders < 65535 then s.console.discardedOrders + 1
          else s.console.discardedOrders } }) ∧
    (s.console.places.length < 8 → isStatus i = false → (s.start.write ≠ none ∨ s.console.resetPending = true) →
      exec i s = .next (refusedAs tag order .busy s)) ∧
    (TakesOrders s → badlyLaidOut i = true → exec i s = .next (refusedAs tag order .outOfRange s))

/-! ## Setup and the table store -/

/-- SETUP enters the SETUP state in SELF-CHECK and ENUMERATE, is accepted again within it, and is refused later (R190);
SETUP-END discards the open working table and begins the write of the completed ones in order of code (R193); TABLE-READ of
the store and of the working tables answers the part asked for, with the check value in the last part, or is refused, and
changes nothing else (R192; log entry 19 for the part size). -/
def Obligations.SetupAndReadOrdersTaken : Prop :=
  ∀ (s : State) (tag : Nat), TakesOrders s →
    (s.start.setup = false → (s.start.phase = .selfCheck ∨ s.start.phase = .enumerate) →
      exec (.setup tag (.fields ())) s = .next (answered tag 1 .accepted .none
        { heard s with start := { s.start with setup := true, setupCloses := 0 } })) ∧
    (s.start.setup = true → exec (.setup tag (.fields ())) s = .next (answered tag 1 .accepted .none (heard s))) ∧
    (s.start.setup = false → s.start.phase ≠ .selfCheck → s.start.phase ≠ .enumerate →
      exec (.setup tag (.fields ())) s = .next (refusedAs tag 1 .notInState s)) ∧
    (s.start.setup = true → exec (.setupEnd tag (.fields ())) s = .next (answered tag 2 .accepted .none
      { heard s with start := { s.start with
          openTable := none
          lastPart := none
          write := some ((List.range 10).filterMap
            (fun c => ((s.start.completed[c]?).getD none).map (fun b => (⟨c, b⟩ : TableImage)))) } })) ∧
    (s.start.setup = false → exec (.setupEnd tag (.fields ())) s = .next (refusedAs tag 2 .notInState s)) ∧
    ∀ code k : Nat,
    (10 ≤ code → exec (.tableReadStore tag (.fields ⟨code, k⟩)) s = .next (refusedAs tag 4 .outOfRange s) ∧
      exec (.tableReadWorking tag (.fields ⟨code, k⟩)) s = .next (refusedAs tag 4 .outOfRange s)) ∧
    (code < 10 → tableValid s.tables code = false →
      exec (.tableReadStore tag (.fields ⟨code, k⟩)) s = .next (refusedAs tag 4 .badTable s)) ∧
    (code < 10 → tableValid s.tables code = true →
      exec (.tableReadStore tag (.fields ⟨code, k⟩)) s = .next
        (if 240 * k < (imageOf s.store code).length
          then answered tag 4 .accepted (readBack (imageOf s.store code) k) (heard s)
          else refusedAs tag 4 .outOfRange s)) ∧
    (code < 10 → (s.start.completed[code]?).getD none = none →
      exec (.tableReadWorking tag (.fields ⟨code, k⟩)) s = .next (refusedAs tag 4 .notInState s)) ∧
    (∀ bytes, code < 10 → (s.start.completed[code]?).getD none = some bytes →
      exec (.tableReadWorking tag (.fields ⟨code, k⟩)) s = .next
        (if 240 * k < bytes.length then answered tag 4 .accepted (readBack bytes k) (heard s)
          else refusedAs tag 4 .outOfRange s))

/-- TABLE-LOAD is NOT-IN-STATE outside SETUP, and OUT-OF-RANGE with a code above 9. In SETUP a part joins what is held, the
last part completes the table when its check value and its content pass and is refused BAD-TABLE otherwise, a part above
the table's length is refused BAD-TABLE, a part sent twice is accepted once, and any other part is NOT-IN-STATE (R191). That
a part 0 above the length is BAD-TABLE, and that a last part is still known after its table is complete, is log
entry 18. -/
def Obligations.TableLoadTaken : Prop :=
  (∀ (s : State) (tag : Nat) (p : TablePart), TakesOrders s →
    (s.start.setup = false → exec (.tableLoad tag (.fields p)) s = .next (refusedAs tag 3 .notInState s)) ∧
    (s.start.setup = true → 10 ≤ p.code →
      exec (.tableLoad tag (.fields p)) s = .next (refusedAs tag 3 .outOfRange s))) ∧
  ∀ (s : State) (tag : Nat) (p : TablePart), TakesOrders s → s.start.setup = true → p.code < 10 →
    (∀ held, Continues s p held → (held ++ p.bytes).length ≤ tableSize p.code →
      (p.last = false → exec (.tableLoad tag (.fields p)) s = .next (answered tag 3 .accepted .none
        { heard s with start := { s.start with
            openTable := some ⟨p.code, held ++ p.bytes⟩, lastPart := some ⟨p.code, p.part⟩ } })) ∧
      (p.last = true → (crc16 (held ++ p.bytes)).toNat = p.check → tableOk s p.code (held ++ p.bytes) = true →
        exec (.tableLoad tag (.fields p)) s = .next (answered tag 3 .accepted .none
          { heard s with start := { s.start with
              openTable := none
              lastPart := some ⟨p.code, p.part⟩
              completed := s.start.completed.setIfInBounds p.code (some (held ++ p.bytes)) } })) ∧
      (p.last = true → ((crc16 (held ++ p.bytes)).toNat ≠ p.check ∨ tableOk s p.code (held ++ p.bytes) = false) →
        exec (.tableLoad tag (.fields p)) s = .next (answered tag 3 .badTable .none
          { heard s with start := { s.start with openTable := none, lastPart := none } }))) ∧
    (∀ held, Continues s p held → tableSize p.code < (held ++ p.bytes).length →
      exec (.tableLoad tag (.fields p)) s = .next (answered tag 3 .badTable .none
        { heard s with start := { s.start with openTable := none, lastPart := none } })) ∧
    (p.part ≠ 0 → s.start.lastPart = some ⟨p.code, p.part⟩ →
      exec (.tableLoad tag (.fields p)) s = .next (answered tag 3 .accepted .none (heard s))) ∧
    (p.part ≠ 0 → s.start.lastPart ≠ some ⟨p.code, p.part⟩ → (∀ held, ¬ Continues s p held) →
      exec (.tableLoad tag (.fields p)) s = .next (refusedAs tag 3 .notInState s))

/-- The completion of a SETUP-END write restarts the part at SELF-CHECK. The tables written stand in the store and the others
as before; the directory copy not in force is written with the next number, the check values of the written tables and those
kept of the others, and the other copy stays (R193, R196). The settings, the Hold Table, both plans with their progress, the
densities, the conversion trim, the relay FIFO, the READY places and the Report Queue's entries stay, WAITING places are
freed, and the units that restart hold their reset values (R4, R36, R39, R85, R127, R144, R160, R164, R173, R175). No
completed working table is held after it (log entry 45), and where neither directory copy passes its check the first is
written (log entry 20): both the model's choice, as is the starter feedback absent in the pump records that the restart
leaves (log entry 36). -/
def Obligations.WriteCompletionRestarts : Prop :=
  ∀ (s : State) (w : List TableImage), s.start.inReset = none → s.start.write = some w →
    (w.map TableImage.code).Nodup → (∀ x ∈ w, x.code < 10) →
    ∃ t, exec .setupEndWriteCompletion s = .next t ∧
      OnlyChanges [.store, .chan, .tank, .hold, .hull, .pump, .plan, .report, .line, .console, .fault, .start] s t ∧
      (∀ c < 10, imageOf t.store c = match w.find? (fun x => x.code == c) with
        | some x => x.bytes
        | none => imageOf s.store c) ∧
      (let d := directoryInForce s.store
        let next : Directory := ⟨(d.seq + 1) % 4294967296, (List.range 10).map (fun c =>
          match w.find? (fun x => x.code == c) with
          | some x => some (crc16 x.bytes).toNat
          | none => (d.checks[c]?).getD none)⟩
        (secondInForce s.store = some false →
          t.store.dirA = s.store.dirA ∧ t.store.dirB = writeDirectory next) ∧
        (secondInForce s.store ≠ some false →
          t.store.dirA = writeDirectory next ∧ t.store.dirB = s.store.dirB)) ∧
      t.console = { s.console with places := s.console.places.filter (fun p =>
        p.state != .onFlag && p.state != .onEngine) } ∧ t.tank.convTrim = s.tank.convTrim ∧
      (s.fault.list = [] → t.report = s.report ∧ t.fault.list = []) ∧
      (s.report.queue.length + s.fault.list.length ≤ 24 → ∀ e ∈ s.report.queue, (∀ c x, e.key ≠ .fault c x) →
        e ∈ t.report.queue) ∧
      t.start.phase = .selfCheck ∧ t.start.setup = false ∧ t.start.write = none ∧ t.start.restart = true ∧
      t.start.openTable = none ∧ (∀ c < 10, (t.start.completed[c]?).getD none = none) ∧
      t.hold.recs = s.hold.recs ∧ t.hold.takeUp = true ∧ t.tank.density = s.tank.density ∧
      t.chan = ChannelState.reset ∧ t.hull = HullState.reset ∧
      t.pump = { PumpState.reset with supplyLow := s.pump.supplyLow } ∧
      (∀ c, ctxRec t c = { ctxRec s c with asked := false }) ∧ t.plan.designated = s.plan.designated ∧
      t.plan.recheckOwed = (s.plan.recheckOwed || w.any (fun x => x.code == 3)) ∧
      (∀ a, nodeRec t a = NodeRec.reset) ∧ t.line.enumeration = .notRunning ∧ t.line.queue = [] ∧
      t.line.cycle = s.line.cycle ∧ t.fault.list.length = s.fault.list.length

/-- What the part writes it reads back: a directory copy with its number and its ten check values, and a field-line
frame with its type, address and body, each check passing (R194 to R196). -/
def Obligations.WrittenBytesReadBack : Prop :=
  (∀ d : Directory, d.seq < 4294967296 → d.checks.length = 10 → (∀ v ∈ d.checks, ∀ n ∈ v, n < 65536) →
    readDirectory (writeDirectory d) = some d) ∧
  ∀ (ty addr : Nat) (body : List Byte), ty < 256 → addr < 256 →
    readLineFrame (lineFrame ty addr body) = some ⟨ty, addr, body⟩

/-! ## Voyage settings -/

/-- A numeric voyage setting takes the value given, or the nearer bound with the answer CLAMPED, and nothing else changes
(R12, R57, R101, R156, R176). A setting with named values takes a value among them, relay OFF emptying the relay FIFO at
once, and is refused for any other; an unknown setting is answered UNKNOWN (R57, R159, R175, R176). The trim window is
refused with its minimum above its maximum, and else each bound is clamped (R57); the report windows are replaced whole when
1 to 8 windows lie within the station list, and refused otherwise (R152). -/
def Obligations.VoyageSettingsTaken : Prop :=
  (∀ (s : State) (tag : Nat) (v : Int), TakesOrders s →
    exec (.voyageSetStaleLimit tag (.fields v)) s = .next
      (numberSet tag 1 20 v (fun c => { c with staleLimit := (within 1 20 v).toNat }) s) ∧
    exec (.voyageSetWarnPerMille tag (.fields v)) s = .next
      (numberSet tag 500 990 v (fun c => { c with eval := { c.eval with warn := (within 500 990 v).toNat } }) s) ∧
    exec (.voyageSetMaximumDraught tag (.fields v)) s = .next
      (numberSet tag 0 30000 v (fun c => { c with eval := { c.eval with maxDraught := within 0 30000 v } }) s) ∧
    exec (.voyageSetDraughtMargin tag (.fields v)) s = .next
      (numberSet tag 0 2000 v (fun c => { c with eval := { c.eval with margin := within 0 2000 v } }) s) ∧
    exec (.voyageSetDraughtMismatchTolerance tag (.fields v)) s = .next
      (numberSet tag 0 1000 v (fun c => { c with eval := { c.eval with mismatchTol := within 0 1000 v } }) s) ∧
    exec (.voyageSetValveTravelTimeout tag (.fields v)) s = .next
      (numberSet tag 1 120 v (fun c => { c with valveTimeout := (within 1 120 v).toNat }) s) ∧
    exec (.voyageSetPumpStartTimeout tag (.fields v)) s = .next
      (numberSet tag 1 60 v (fun c => { c with pumpTimeout := (within 1 60 v).toNat }) s) ∧
    exec (.voyageSetFlowWindow tag (.fields v)) s = .next
      (numberSet tag 5 120 v (fun c => { c with flowWindow := (within 5 120 v).toNat }) s) ∧
    exec (.voyageSetMinimumFlow tag (.fields v)) s = .next
      (numberSet tag 1 5000 v (fun c => { c with minFlow := (within 1 5000 v).toNat }) s) ∧
    exec (.voyageSetConditionPeriod tag (.fields v)) s = .next
      (numberSet tag 1 255 v (fun c => { c with conditionPeriod := (within 1 255 v).toNat }) s) ∧
    exec (.voyageSetProgressPeriod tag (.fields v)) s = .next
      (numberSet tag 1 255 v (fun c => { c with progressPeriod := (within 1 255 v).toNat }) s)) ∧
  ∀ (s : State) (tag : Nat), TakesOrders s →
    (exec (.voyageSetLimitSet tag (.fields 0)) s = .next
        (namedSet tag (fun c => { c with eval := { c.eval with limitSet := .harbour } }) s) ∧
      exec (.voyageSetLimitSet tag (.fields 1)) s = .next
        (namedSet tag (fun c => { c with eval := { c.eval with limitSet := .sea } }) s) ∧
      ∀ v : Int, v ≠ 0 → v ≠ 1 → exec (.voyageSetLimitSet tag (.fields v)) s = .next (refusedAs tag 5 .outOfRange s)) ∧
    ((∀ n : Nat, n = 100 ∨ n = 200 ∨ n = 500 →
        exec (.voyageSetLinePeriod tag (.fields n)) s = .next (namedSet tag (fun c => { c with linePeriod := n }) s)) ∧
      ∀ v : Int, v ≠ 100 → v ≠ 200 → v ≠ 500 →
        exec (.voyageSetLinePeriod tag (.fields v)) s = .next (refusedAs tag 5 .outOfRange s)) ∧
    (exec (.voyageSetRelay tag (.fields 1)) s = .next (namedSet tag (fun c => { c with relay := true }) s) ∧
      exec (.voyageSetRelay tag (.fields 0)) s = .next (answered tag 5 .accepted .none
        { heard s with
          settings := { s.settings with relay := false }
          console := { (heard s).console with relay := [] } }) ∧
      ∀ v : Int, v ≠ 0 → v ≠ 1 → exec (.voyageSetRelay tag (.fields v)) s = .next (refusedAs tag 5 .outOfRange s)) ∧
    (∀ code, exec (.voyageSetUnknownSetting tag code) s = .next (refusedAs tag 5 .unknown s)) ∧
    (∀ lo hi : Int, (hi < lo → exec (.voyageSetTrimWindow tag (.fields ⟨lo, hi⟩)) s = .next
        (refusedAs tag 5 .outOfRange s)) ∧
      (lo ≤ hi → exec (.voyageSetTrimWindow tag (.fields ⟨lo, hi⟩)) s = .next
        (answered tag 5 (if -20000 ≤ lo ∧ lo ≤ 20000 ∧ -20000 ≤ hi ∧ hi ≤ 20000 then .accepted else .clamped) .none
          { heard s with settings := { s.settings with eval := { s.settings.eval with
              trimMin := within (-20000) 20000 lo, trimMax := within (-20000) 20000 hi } } }))) ∧
    ∀ l : List Window,
      let stations := match s.tables.base with
        | some b => b.nsta
        | none => 24
      let fits := 1 ≤ l.length ∧ l.length ≤ 8 ∧ ∀ w ∈ l, 1 ≤ w.count ∧ w.first + w.count ≤ stations
      (fits → exec (.voyageSetReportWindows tag (.fields l)) s = .next
        (namedSet tag (fun c => { c with windows := some l }) s)) ∧
      (¬ fits → exec (.voyageSetReportWindows tag (.fields l)) s = .next (refusedAs tag 5 .outOfRange s))

/-- The density of a tank in use takes the value given, clamped to 500 to 2,000: with no conversion in flight the mass is
taken anew from the volume held and the rate becomes absent, and else the density waits for the conversion's end (R19); a
density equal to the one in force is taken in the same way (log entry 54). -/
def Obligations.DensityTaken : Prop :=
  ∀ (s : State) (tag t : Nat) (v : Int), TakesOrders s →
    let d := (within 500 2000 v).toNat
    let r := tankRec s t
    ((64 ≤ t ∨ tankInUse s t = false) →
      exec (.voyageSetDensity tag (.fields ⟨t, v⟩)) s = .next (refusedAs tag 5 .outOfRange s)) ∧
    (t < 64 → tankInUse s t = true → r.conv = none →
      exec (.voyageSetDensity tag (.fields ⟨t, v⟩)) s = .next (answered tag 5 (clampCode 500 2000 v) .none
        (setTank t { r with mass := (2 * (r.volume * d) + 1000) / 2000, rate := none, rateBasis := none }
          (setDensity t d (heard s))))) ∧
    (t < 64 → tankInUse s t = true → r.conv ≠ none →
      exec (.voyageSetDensity tag (.fields ⟨t, v⟩)) s = .next (answered tag 5 (clampCode 500 2000 v) .none
        (setTank t { r with newDensity := some d } (heard s))))

/-! ## Holds and the PROJECT order -/

/-- An allowance is written, clamped to 0 to 1,000,000, and HOLD-SET writes a hold's mass and clears its unsure flag,
ending POUR-GAP; then RESUME is posted when the hold is stopped, its mass below its allowance and the Condition Record
not OVER (R40, R44, R45, R49, R51). The cycle number of the LOADER report is log entry 33. -/
def Obligations.HoldOrdersTaken : Prop :=
  ∀ (s : State) (tag h : Nat), TakesOrders s →
    let r := holdRec s h
    (∀ v : Int,
      let a := (within 0 1000000 v).toNat
      let due := r.stopRequested = true ∧ r.mass < a ∧ overallClass s ≠ .over
      (12 ≤ h → exec (.voyageSetAllowance tag (.fields ⟨h, v⟩)) s = .next (refusedAs tag 5 .outOfRange s)) ∧
      (h < 12 → due → exec (.voyageSetAllowance tag (.fields ⟨h, v⟩)) s = .next
        (answered tag 5 (clampCode 0 1000000 v) .none
          (loaderPosted h false (setHold h { r with allowance := a, stopRequested := false } (heard s))))) ∧
      (h < 12 → ¬ due → exec (.voyageSetAllowance tag (.fields ⟨h, v⟩)) s = .next
        (answered tag 5 (clampCode 0 1000000 v) .none (setHold h { r with allowance := a } (heard s))))) ∧
    ∀ m : Nat,
      let due := r.stopRequested = true ∧ m < r.allowance ∧ overallClass s ≠ .over
      let set := setHold h { r with mass := m, unsure := false } (heard s)
      let told := if r.unsure then tellEnded .pourGap h set else set
      ((12 ≤ h ∨ 1000000 < m) → exec (.holdSet tag (.fields ⟨h, m⟩)) s = .next (refusedAs tag 6 .outOfRange s)) ∧
      (h < 12 → m ≤ 1000000 → due → exec (.holdSet tag (.fields ⟨h, m⟩)) s = .next
        (answered tag 6 .accepted .none
          (loaderPosted h false (setHold h { r with mass := m, unsure := false, stopRequested := false } told)))) ∧
      (h < 12 → m ≤ 1000000 → ¬ due → exec (.holdSet tag (.fields ⟨h, m⟩)) s = .next
        (answered tag 6 .accepted .none told))

/-- A POUR frame: out of range or a duplicate it changes nothing; else the hold's mass rises to at most 1,000,000 dt,
the unsure flag is set by a gap or by that bound and raises POUR-GAP, and the loader decision follows (R41 to R44, R47,
R51). That a badly laid out POUR changes nothing is log entry 16, the cycle number of the LOADER report log entry 33. Below its
allowance a hold of request NONE is told nothing, as the table of R47 has it, also while the Condition Record is OVER: R48
hands that pour to R47 and says that it posts STOP there, which no row of the table does; that the table decides is the
model's reading (log entry 58). -/
def Obligations.PoursAccounted : Prop :=
  ∀ (s : State) (f : PourFrame), s.start.inReset = none →
    let r := holdRec s f.hold
    let behind := ((r.lastSeq : Int) - f.seq) % 65536
    let known := r.lastRun = some f.run
    let next := f.seq = (r.lastSeq + 1) % 65536
    let spills := 1000000 < r.mass + f.quantity
    let gap := known ∧ ¬ next ∧ 31 < behind
    let poured := { r with
      mass := min (r.mass + f.quantity) 1000000
      unsure := r.unsure || decide gap || decide spills
      lastRun := some f.run
      lastSeq := f.seq
      phase := if f.final then .finished else .pouring }
    let set := setHold f.hold poured (heard s)
    let told := if r.unsure = false ∧ poured.unsure = true then tellActive .pourGap f.hold set else set
    ((12 ≤ f.hold ∨ 50000 < f.quantity) → exec (.pour (.fields f)) s = .next (heard s)) ∧
    (f.hold < 12 → f.quantity ≤ 50000 → known → ¬ next → behind ≤ 31 → exec (.pour (.fields f)) s = .next (heard s)) ∧
    (f.hold < 12 → f.quantity ≤ 50000 → ¬ (known ∧ ¬ next ∧ behind ≤ 31) →
      exec (.pour (.fields f)) s = .next
        (if poured.allowance ≤ poured.mass ∨ (r.stopRequested = true ∧ overallClass s = .over) then
          loaderPosted f.hold true (setHold f.hold { poured with stopRequested := true } told)
        else if r.stopRequested = true then
          loaderPosted f.hold false (setHold f.hold { poured with stopRequested := false } told)
        else told)) ∧
    exec (.pour .badLayout) s = .next (heard s)

/-- A PROJECT of up to 8 distinct items in range sets the ORDER flag and keeps a place for its reply, and a PROJECT that
the flag held is answered BUSY; any other is refused OUT-OF-RANGE (R61, R173). -/
def Obligations.ProjectTaken : Prop :=
  ∀ (s : State) (tag : Nat) (l : List Substitution), TakesOrders s →
    let fits := l.length ≤ 8 ∧ (l.map Substitution.item).Nodup ∧ ∀ q ∈ l, q.item < 76 ∧
      (q.item < 64 → tankInUse s q.item = true ∧ q.mass ≤ capacity s q.item) ∧ (64 ≤ q.item → q.mass ≤ 1000000)
    (fits → exec (.project tag (.fields l)) s = .next
      { heard s with
        hull := { s.hull with orderFlag := some ⟨tag, l⟩ }
        console := { (heard s).console with
          places := s.console.places.map (fun p =>
            if p.state = .onFlag then { p with state := .ready .busy .none } else p) ++ [⟨tag, 7, .onFlag⟩] } }) ∧
    (¬ fits → exec (.project tag (.fields l)) s = .next (refusedAs tag 7 .outOfRange s))

/-! ## Plan orders -/

/-- A plan order, EXCHANGE or AUTO-EXCHANGE is NOT-IN-STATE in SETUP and before ANNOUNCE, BUSY while an exchange is in
flight, and OUT-OF-RANGE when it names no context (R106, R131, R137). -/
def Obligations.PlanOrdersGated : Prop :=
  ∀ (s : State) (tag : Nat) (p : PlanPart) (c k n : Nat), TakesOrders s →
    ∀ (i : Instr) (order : Nat), (i, order) ∈
        [(Instr.planLoad tag (.fields p), 8), (.planStart tag (.fields c), 9), (.planPause tag (.fields c), 10),
          (.resume tag (.fields c), 11), (.skipStep tag (.fields ⟨c, k⟩), 12), (.planAbort tag (.fields c), 13),
          (.confirm tag (.fields ()), 14), (.exchange tag (.fields ()), 15), (.autoExchangeOn tag (.fields ()), 16),
          (.autoExchangeOff tag (.fields n), 16)] →
      ((s.start.setup = true ∨ s.start.phase = .selfCheck ∨ s.start.phase = .enumerate) →
        exec i s = .next (refusedAs tag order .notInState s)) ∧
      (s.start.setup = false → s.start.phase ≠ .selfCheck → s.start.phase ≠ .enumerate → s.plan.exchange ≠ none →
        exec i s = .next (refusedAs tag order .busy s)) ∧
      (TakesPlanOrders s → 2 ≤ c → p.ctx = c → order < 14 → exec i s = .next (refusedAs tag order .outOfRange s))

/-- PLAN-LOAD: a first part begins the working plan of its context and a later part joins it; the last part installs a
plan that passes R108, with every step WAITING and nothing done, or is answered BAD-PLAN with the position at fault
(R107, R109). That a part which meets both refusals of R109 is NOT-IN-STATE is the model's choice (log entry 61); which
fault is named where a plan has several is log entry 41. -/
def Obligations.PlanLoadTaken : Prop :=
  ∀ (s : State) (tag : Nat) (c : Ctx) (p : PlanPart), TakesPlanOrders s → p.ctx = c.code →
    let st := (ctxRec s c).state
    let busy := s.plan.designated = c ∧ (st = .active ∨ st = .paused)
    let work : Option WorkPlan :=
      if p.first then some ⟨p.period.getD 150, p.share.getD 50, p.steps⟩
      else (workPlan s c).map (fun w => { w with steps := w.steps ++ p.steps })
    (s.tables.tank = none → exec (.planLoad tag (.fields p)) s = .next (refusedAs tag 8 .notInState s)) ∧
    (s.tables.tank ≠ none → busy → exec (.planLoad tag (.fields p)) s = .next (refusedAs tag 8 .busy s)) ∧
    (s.tables.tank ≠ none → ¬ busy → work = none →
      exec (.planLoad tag (.fields p)) s = .next (refusedAs tag 8 .notInState s)) ∧
    ∀ w, s.tables.tank ≠ none → ¬ busy → work = some w →
      (32 < w.steps.length → exec (.planLoad tag (.fields p)) s = .next
        (answered tag 8 .badPlan (.badPlan none none) (setWork c none (heard s)))) ∧
      (w.steps.length ≤ 32 → p.last = false → exec (.planLoad tag (.fields p)) s = .next
        (answered tag 8 .accepted .none (setWork c (some w) (heard s)))) ∧
      (w.steps.length ≤ 32 → p.last = true → ∀ f, planFault s w = some f → exec (.planLoad tag (.fields p)) s = .next
        (answered tag 8 .badPlan (.badPlan f.step f.entry) (setWork c none (heard s)))) ∧
      (w.steps.length ≤ 32 → p.last = true → planFault s w = none → exec (.planLoad tag (.fields p)) s = .next
        (planAnswered tag 8 .none s
          (setCtx c
            { state := .loaded
              plan := some (planOfWork w)
              index := 0
              steps := w.steps.map (fun x => ⟨.waiting, x.entries.map (fun _ => false)⟩)
              asked := false
              confirmCount := 0
              resumable := false }
            (setWork c none (heard s)))))

/-- What the check of a working plan asks, all of it and nothing more: 1 or more steps of 1 to 4 entries each, distinct
tanks in use with a pump in reach, targets within capacity, known actions and margins, gates, period and share in range
(R108). -/
def Obligations.PlanChecksDecide : Prop :=
  ∀ (s : State) (w : WorkPlan), planFault s w = none ↔
    w.steps ≠ [] ∧ (10 ≤ w.period ∧ w.period ≤ 600) ∧ w.share ∈ [25, 50, 75, 100] ∧
      ∀ x ∈ w.steps, 1 ≤ x.entries.length ∧ x.entries.length ≤ 4 ∧ (x.entries.map RawEntry.tank).Nodup ∧
        x.margin ≤ 1 ∧ (∀ g ∈ x.gate, g.hold < 12 ∧ g.minMass ≤ 1000000) ∧
        ∀ e ∈ x.entries, e.tank < 64 ∧ tankInUse s e.tank = true ∧
          (∃ f, tankFix s e.tank = some f ∧ f.reach ≠ []) ∧ e.target ≤ capacity s e.tank ∧ e.action ≤ 1

/-- PLAN-START takes a LOADED or ABORTED designated context to ACTIVE and gates its first step, and RESUME takes a held
or waiting step back to its gates; in every other case each is NOT-IN-STATE (R120, R122). -/
def Obligations.PlanStartAndResumeTaken : Prop :=
  ∀ (s : State) (tag : Nat) (c : Ctx), TakesPlanOrders s →
    let r := ctxRec s c
    (s.plan.designated = c → r.state = .loaded → ∀ j < r.steps.length,
      stepState r j ≠ some .skipped → (∀ k < j, stepState r k = some .skipped) →
      exec (.planStart tag (.fields c.code)) s = .next (planAnswered tag 9 .none s
        (gateStep (setCtx c { r with state := .active, index := j } (heard s))))) ∧
    (s.plan.designated = c → r.state = .loaded → (∀ k < r.steps.length, stepState r k = some .skipped) →
      exec (.planStart tag (.fields c.code)) s = .next (planAnswered tag 9 .none s
        (setCtx c { r with state := .complete } (heard s)))) ∧
    (s.plan.designated = c → r.state = .aborted →
      exec (.planStart tag (.fields c.code)) s = .next (planAnswered tag 9 .none s
        (gateStep (setCtx c { r with
          state := .active
          index := 0
          steps := r.steps.map (fun x => ⟨.waiting, x.done.map (fun _ => false)⟩) } (heard s))))) ∧
    ((s.plan.designated ≠ c ∨ (r.state ≠ .loaded ∧ r.state ≠ .aborted)) →
      exec (.planStart tag (.fields c.code)) s = .next (refusedAs tag 9 .notInState s)) ∧
    (s.plan.designated = c → r.state = .paused →
      (isHeld (stepState r r.index) = true ∨ stepState r r.index = some .waiting) →
      exec (.resume tag (.fields c.code)) s = .next (planAnswered tag 11 .none s
        (gateStep (setCtx c { r with state := .active } (heard s))))) ∧
    (s.plan.designated = c → r.state = .paused → stepState r r.index = some .gated →
      exec (.resume tag (.fields c.code)) s = .next (planAnswered tag 11 .none s
        (judgeRequest (setCtx c { r with state := .active } (heard s))))) ∧
    (s.plan.designated = c → r.state = .active → isHeld (stepState r r.index) = true →
      exec (.resume tag (.fields c.code)) s = .next (planAnswered tag 11 .none s (gateStep (heard s)))) ∧
    ((s.plan.designated ≠ c ∨ (r.state ≠ .paused ∧ r.state ≠ .active) ∨
        (r.state = .active ∧ (stepState r r.index = some .gated ∨ stepState r r.index = some .running))) →
      exec (.resume tag (.fields c.code)) s = .next (refusedAs tag 11 .notInState s))

/-- The current step of the designated context becomes GATED: its done marks are cleared from WAITING and kept from HELD,
its tanks' service fields become absent, and a STEP request is made at once when every gate of R112 holds (R60, R111,
R112). A RUNNING step becomes DONE when every tank is done and none is served: its tanks' service fields become absent, the
step boundary is passed and the index advances (R114, R115, R138); judged in any other case it stays. When a step is DONE or
SKIPPED, the index moves to the next step that is not SKIPPED, which an ACTIVE context gates; with none left the context
becomes COMPLETE and the index stays (R116). -/
def Obligations.StepsGateAndAdvance : Prop :=
  (∀ (s : State) (p : PlanStep) (x : StepRec),
    let c := s.plan.designated
    let r := ctxRec s c
    let t := gateStep s
    planStep r r.index = some p → r.steps[r.index]? = some x →
    OnlyChanges [.plan, .tank, .hull] s t ∧ t.plan.designated = c ∧ t.plan.exchange = s.plan.exchange ∧
      ctxRec t (otherCtx c) = ctxRec s (otherCtx c) ∧
      (∀ k, tankRec t k = if k ∈ p.entries.map PlanEntry.tank then { tankRec s k with service := none }
        else tankRec s k) ∧
      (let due := r.state = .active ∧ s.plan.exchange = none ∧
          (overallClass s = .clear ∨ overallClass s = .warning) ∧
          (∀ g ∈ p.gate, g.minMass ≤ (holdRec s g.hold).mass) ∧
          ∀ e ∈ p.entries, (tankRec s e.tank).serving = none
        let gated : StepRec := ⟨.gated, if x.state = .waiting then x.done.map (fun _ => false) else x.done⟩
        ctxRec t c = { r with asked := decide due, steps := r.steps.set r.index gated } ∧
        let request : StepReq := ⟨c, r.index, p.entries.map (fun e => (⟨e.tank, e.target⟩ : Substitution))⟩
        t.hull = if due then { s.hull with stepFlag := some request } else s.hull)) ∧
  ∀ s : State,
    let c := s.plan.designated
    let r := ctxRec s c
    (∀ (p : PlanStep) (x : StepRec), planStep r r.index = some p → r.steps[r.index]? = some x →
      let done := x.state = .running ∧ (∀ b ∈ x.done, b = true) ∧ ∀ e ∈ p.entries, (tankRec s e.tank).serving = none
      (¬ done → judgeDone s = s) ∧
      (done → ∃ v, judgeDone s = advance v ∧ OnlyChanges [.plan, .tank] s v ∧
        ctxRec v c = { r with steps := r.steps.set r.index { x with state := .done } } ∧
        ctxRec v (otherCtx c) = ctxRec s (otherCtx c) ∧ v.plan.designated = c ∧ v.plan.exchange = s.plan.exchange ∧
        v.plan.autoPending = false ∧ v.plan.autoEffective = (s.plan.autoEffective || s.plan.autoPending) ∧
        ∀ k, tankRec v k = if k ∈ p.entries.map PlanEntry.tank then { tankRec s k with service := none }
          else tankRec s k)) ∧
    (∀ j, r.index < j → j < r.steps.length → stepState r j ≠ some .skipped →
      (∀ k, r.index < k → k < j → stepState r k = some .skipped) →
      (r.state = .active → advance s = gateStep (setCtx c { r with index := j } s)) ∧
      (r.state ≠ .active → advance s = setCtx c { r with index := j } s)) ∧
    ((∀ k, r.index < k → k < r.steps.length → stepState r k = some .skipped) →
      advance s = setCtx c { r with state := .complete } s)

/-- PLAN-PAUSE takes an ACTIVE designated context to PAUSED: a RUNNING current step is held PAUSE with a stop request for
each of its tanks, a GATED one loses its projection asked mark, a HELD one keeps its reason; in every other case the
order is NOT-IN-STATE; and a PAUSED context's steps wait (R121). -/
def Obligations.PlanPauseTaken : Prop :=
  ∀ (s : State) (tag : Nat) (c : Ctx),
    let r := ctxRec s c
    (TakesPlanOrders s → s.plan.designated = c → r.state = .active →
      ∃ u, exec (.planPause tag (.fields c.code)) s = .next (planAnswered tag 10 .none s u) ∧
        (ctxRec u c).state = .paused ∧ (ctxRec u c).asked = false ∧
        (∀ k, stepState (ctxRec u c) k =
          if k = r.index ∧ stepState r k = some .running then some (.held .pause) else stepState r k) ∧
        (ctxRec u c).steps.map StepRec.done = r.steps.map StepRec.done ∧ (ctxRec u c).index = r.index ∧
        (ctxRec u c).plan = r.plan ∧ (ctxRec u c).confirmCount = r.confirmCount ∧
        (ctxRec u c).resumable = r.resumable ∧ ctxRec u (otherCtx c) = ctxRec s (otherCtx c) ∧
        (stepState r r.index ≠ some .running → OnlyChanges [.plan] (heard s) u) ∧
        (stepState r r.index = some .running → OnlyChanges [.plan, .pump, .line] (heard s) u ∧
          let v := stopAll (stepTanks r r.index) (setCtx c (r.putStep r.index (.held .pause)) (heard s))
          u.pump = v.pump ∧ u.line = v.line)) ∧
    (TakesPlanOrders s → ¬ (s.plan.designated = c ∧ r.state = .active) →
      exec (.planPause tag (.fields c.code)) s = .next (refusedAs tag 10 .notInState s)) ∧
    (s.plan.designated = c → r.state = .paused →
      judgeRequest s = s ∧ returnFromHold s = s ∧ ∀ p, planStepCompletion p s = s)

/-- SKIP-STEP marks a step SKIPPED, a current step of an ACTIVE or PAUSED context giving way to the next (R123); and
PLAN-ABORT stops the current step's pumps and takes it back to WAITING (R124); each is refused in every other case. -/
def Obligations.SkipAndAbortTaken : Prop :=
  ∀ (s : State) (tag : Nat) (c : Ctx), TakesPlanOrders s →
    let r := ctxRec s c
    let named := r.state = .loaded ∨ ((r.state = .active ∨ r.state = .paused) ∧ s.plan.designated = c)
    let back : CtxRec :=
      if stepState r r.index = some .gated ∨ stepState r r.index = some .running ∨
          isHeld (stepState r r.index) = true then r.putStep r.index .waiting else r
    (∀ k,
      let skipped := setCtx c (r.putStep k .skipped) (heard s)
      let bounded := if s.plan.designated = c then boundary skipped else skipped
      (¬ named → exec (.skipStep tag (.fields ⟨c.code, k⟩)) s = .next (refusedAs tag 12 .notInState s)) ∧
      (named → r.steps.length ≤ k →
        exec (.skipStep tag (.fields ⟨c.code, k⟩)) s = .next (refusedAs tag 12 .outOfRange s)) ∧
      (named → (stepState r k = some .running ∨ stepState r k = some .done ∨ stepState r k = some .skipped) →
        exec (.skipStep tag (.fields ⟨c.code, k⟩)) s = .next (refusedAs tag 12 .notInState s)) ∧
      (named → k < r.steps.length → stepState r k ≠ some .running → stepState r k ≠ some .done →
        stepState r k ≠ some .skipped →
        exec (.skipStep tag (.fields ⟨c.code, k⟩)) s = .next (planAnswered tag 12 .none s
          (if r.index = k ∧ r.state ≠ .loaded then
            advance (clearService (stepTanks r k) (setCtx c { ctxRec bounded c with asked := false } bounded))
          else bounded)))) ∧
    (s.plan.designated = c → (r.state = .active ∨ r.state = .paused) →
      exec (.planAbort tag (.fields c.code)) s = .next (planAnswered tag 13 .none s
        (clearService (stepTanks r r.index)
          (setCtx c { back with state := .aborted, asked := false, resumable := false }
            (if stepState r r.index = some .running ∨ isHeld (stepState r r.index) = true
              then stopAll (stepTanks r r.index) (heard s) else heard s))))) ∧
    (s.plan.designated ≠ c → r.state = .suspended →
      exec (.planAbort tag (.fields c.code)) s = .next (planAnswered tag 13 .none s
        (setCtx c { back with state := .aborted, asked := false, resumable := false } (heard s)))) ∧
    (¬ (s.plan.designated = c ∧ (r.state = .active ∨ r.state = .paused)) →
      ¬ (s.plan.designated ≠ c ∧ r.state = .suspended) →
      exec (.planAbort tag (.fields c.code)) s = .next (refusedAs tag 13 .notInState s))

/-- CONFIRM of a RUNNING step: at or above the count at which the window opens the count becomes 0, and below it the step
is held CONFIRM-EARLY; the reply carries the result and the count; with no RUNNING step it is NOT-IN-STATE (R126). -/
def Obligations.ConfirmTaken : Prop :=
  ∀ (s : State) (tag : Nat), TakesPlanOrders s →
    let c := s.plan.designated
    let r := ctxRec s c
    (stepState r r.index ≠ some .running →
      exec (.confirm tag (.fields ())) s = .next (refusedAs tag 14 .notInState s)) ∧
    ∀ p, stepState r r.index = some .running → r.plan = some p →
      (p.period * (100 - p.share) / 100 ≤ r.confirmCount → exec (.confirm tag (.fields ())) s = .next
        (answered tag 14 .accepted (.confirm false r.confirmCount) (setCtx c { r with confirmCount := 0 } (heard s)))) ∧
      (r.confirmCount < p.period * (100 - p.share) / 100 → exec (.confirm tag (.fields ())) s = .next
        (planAnswered tag 14 (.confirm true r.confirmCount) s
          (stopAll (stepTanks r r.index) (setCtx c (r.putStep r.index (.held .confirmEarly)) (heard s)))))

/-- EXCHANGE with the other context LOADED or SUSPENDED begins an exchange: while pumps serve the outgoing context the
exchange record holds them and its step is HELD, the service fields of a GATED one written (R114; log entry 57), and with
none the exchange completes at once, the designation passing to the other context (R131, R132, R134 to R136). -/
def Obligations.ExchangeTaken : Prop :=
  ∀ (s : State) (tag : Nat), TakesPlanOrders s →
    let c := s.plan.designated
    let o := otherCtx c
    let r := ctxRec s c
    let served := (List.range 4).filter (fun p => ((pumpRec s p).job.map Prod.fst) == some c)
    ((ctxRec s o).state ≠ .loaded → (ctxRec s o).state ≠ .suspended →
      exec (.exchange tag (.fields ())) s = .next (refusedAs tag 15 .notInState s)) ∧
    ((ctxRec s o).state = .loaded ∨ (ctxRec s o).state = .suspended →
      ∃ u, exec (.exchange tag (.fields ())) s = .next (planAnswered tag 15 .none s u) ∧
        OnlyChanges [.plan, .tank, .hull, .pump, .line, .report, .fault] (heard s) u ∧
        (stepState (ctxRec u c) r.index =
          if stepState r r.index = some .running ∨ stepState r r.index = some .gated
            then some (.held .exchange) else stepState r r.index) ∧
        (served ≠ [] → u.plan.designated = c ∧ u.plan.exchange = some ⟨c, r.state, served, true, .order⟩ ∧
          (ctxRec u c).state = r.state ∧ ctxRec u o = ctxRec s o ∧
          (stepState r r.index = some .gated → ((stepTanks r r.index).map PlanEntry.tank).Nodup →
            ∀ e ∈ stepTanks r r.index, e.tank < 64 → (tankRec u e.tank).service = some ⟨e.action, e.target⟩)) ∧
        (served = [] → u.plan.designated = o ∧ u.plan.exchange = none ∧
          (ctxRec u c).state = (if r.state = .active ∨ r.state = .paused then .suspended else r.state) ∧
          (ctxRec u c).resumable = decide (r.state = .active) ∧
          ((ctxRec s o).state = .suspended → (ctxRec u o).resumable = false ∧
            (ctxRec u o).state = if (ctxRec s o).resumable then .active else .paused) ∧
          ((ctxRec s o).state = .loaded → (ctxRec u o).state = .active ∨ (ctxRec u o).state = .complete)))

/-- A release while an exchange is in flight takes its pump out of the served set and clears the clean mark when it was not
clean; when the last leaves, the exchange completes: the outgoing context is SUSPENDED if it was ACTIVE or PAUSED, RESUMABLE
only from ACTIVE with the clean mark set, the designation passes and the incoming context starts (R134 to R136). Then, for a
tank of the current step, R115 and R112 are judged (R86). An OVER completion with the enable effective begins an exchange of
cause AUTO where one can begin, and else holds the step CONDITION, the enable kept (R139). -/
def Obligations.ExchangeReleasesTaken : Prop :=
  (∀ (s : State) (p k : Nat) (clean : Bool),
    let u := exchangeRelease p clean s
    planRelease p k clean s = if k ∈ (currentTanks u).map PlanEntry.tank then judgeRequest (judgeDone u) else u) ∧
  (∀ (s : State) (p : Nat) (clean : Bool), s.plan.exchange = none → exchangeRelease p clean s = s) ∧
  (∀ (s : State) (p : Nat) (clean : Bool) (x : ExchangeRec), s.plan.exchange = some x →
    let left := x.served.filter (fun q => q != p)
    let c := x.outgoing
    let r := ctxRec s c
    let o := ctxRec s (otherCtx c)
    let t := exchangeRelease p clean s
    (p ∉ x.served → t = s) ∧
    (p ∈ x.served → left ≠ [] →
      t = { s with plan := { s.plan with exchange := some { x with served := left, clean := x.clean && clean } } }) ∧
    (p ∈ x.served → left = [] →
      OnlyChanges [.plan, .tank, .hull, .report] s t ∧ t.plan.designated = otherCtx c ∧ t.plan.exchange = none ∧
      t.report = { s.report with progressCount := 0 } ∧
      ctxRec t c = (match x.outState with
        | .active => { r with state := .suspended, resumable := x.clean && clean }
        | .paused => { r with state := .suspended, resumable := false }
        | _ => { r with resumable := false }) ∧
      (∀ k ∈ (stepTanks r r.index).map PlanEntry.tank, k ∉ (stepTanks o o.index).map PlanEntry.tank →
        (tankRec t k).service = none) ∧
      (o.state = .suspended →
        let gates := o.resumable = true ∧
          (stepState o o.index = some (.held .exchange) ∨ stepState o o.index = some .waiting)
        (ctxRec t (otherCtx c)).state = (if o.resumable then .active else .paused) ∧
        (ctxRec t (otherCtx c)).resumable = false ∧ (ctxRec t (otherCtx c)).index = o.index ∧
        (ctxRec t (otherCtx c)).plan = o.plan ∧
        (∀ j, stepState (ctxRec t (otherCtx c)) j =
          if j = o.index ∧ gates then some .gated else stepState o j) ∧
        (¬ gates → isHeld (stepState o o.index) = true →
          ((stepTanks o o.index).map PlanEntry.tank).Nodup → ∀ e ∈ stepTanks o o.index, e.tank < 64 →
          (tankRec t e.tank).service = some ⟨e.action, e.target⟩)) ∧
      (o.state = .loaded →
        (∀ j < o.steps.length, stepState o j ≠ some .skipped → (∀ i < j, stepState o i = some .skipped) →
          (ctxRec t (otherCtx c)).state = .active ∧ (ctxRec t (otherCtx c)).index = j ∧
          stepState (ctxRec t (otherCtx c)) j = some .gated) ∧
        ((∀ j < o.steps.length, stepState o j = some .skipped) →
          ctxRec t (otherCtx c) = { o with state := .complete })))) ∧
  ∀ s : State, overallClass s = .over →
    let c := s.plan.designated
    let r := ctxRec s c
    let o := ctxRec s (otherCtx c)
    let served := (List.range 4).filter (fun p => ((pumpRec s p).job.map Prod.fst) == some c)
    let due := s.plan.autoEffective = true ∧ stepState r r.index = some .running ∧ s.plan.exchange = none ∧
      (o.state = .loaded ∨ o.state = .suspended)
    let t := planHandOn s
    (due → t.plan.autoEffective = false ∧ stepState (ctxRec t c) r.index = some (.held .exchange) ∧
      (served ≠ [] → t.plan.designated = c ∧ t.plan.exchange = some ⟨c, r.state, served, true, .auto⟩) ∧
      (served = [] → t.plan.designated = otherCtx c ∧ t.plan.exchange = none)) ∧
    (¬ due → t.plan.autoEffective = s.plan.autoEffective ∧ t.plan.designated = c ∧
      t.plan.exchange = s.plan.exchange ∧
      stepState (ctxRec t c) r.index =
        if stepState r r.index = some .running then some (.held .condition) else stepState r r.index)

/-- The law of R130 and R135: a context comes to be RESUMABLE only at the completion of an exchange out of it that found it
ACTIVE, with the clean mark set and every pump left in the served set ending its service without trouble, or at once when no
pump's record names it. -/
def Obligations.ResumableOnlyAfterCleanStops : Prop :=
  ∀ (i : Instr) (s t : State) (c : Ctx), exec i s = .next t → (ctxRec s c).resumable = false →
    (ctxRec t c).resumable = true →
    (∃ x, s.plan.exchange = some x ∧ x.outgoing = c ∧ x.outState = .active ∧ x.clean = true ∧
      ∀ p ∈ x.served, (pumpRec s p).stage = .closing ∧ (pumpRec s p).trouble = false) ∨
    (s.plan.exchange = none ∧ s.plan.designated = c ∧ (ctxRec s c).state = .active ∧
      ∀ p < 4, ∀ k, (pumpRec s p).job ≠ some (c, k))

/-- AUTO-EXCHANGE: refused BUSY in a SETUP-END write, NOT-IN-STATE in SETUP and before ANNOUNCE, BUSY during an exchange
and OUT-OF-RANGE for an argument that is neither ON nor OFF; ON sets pending when effective is clear and changes nothing
else; OFF clears both, whatever the other context's state (R137). -/
def Obligations.AutoExchangeTaken : Prop :=
  ∀ (s : State) (tag : Nat), Hears s →
    (s.start.write ≠ none → exec (.autoExchangeOn tag (.fields ())) s = .next (refusedAs tag 16 .busy s) ∧
      ∀ n, exec (.autoExchangeOff tag (.fields n)) s = .next (refusedAs tag 16 .busy s)) ∧
    (TakesOrders s → (s.start.setup = true ∨ s.start.phase = .selfCheck ∨ s.start.phase = .enumerate) →
      exec (.autoExchangeOn tag (.fields ())) s = .next (refusedAs tag 16 .notInState s) ∧
      ∀ n, exec (.autoExchangeOff tag (.fields n)) s = .next (refusedAs tag 16 .notInState s)) ∧
    (TakesOrders s → s.start.setup = false → s.start.phase ≠ .selfCheck → s.start.phase ≠ .enumerate →
      s.plan.exchange ≠ none → exec (.autoExchangeOn tag (.fields ())) s = .next (refusedAs tag 16 .busy s) ∧
      ∀ n, exec (.autoExchangeOff tag (.fields n)) s = .next (refusedAs tag 16 .busy s)) ∧
    (TakesPlanOrders s → ∀ n, n ≠ 0 → n ≠ 1 →
      exec (.autoExchangeOff tag (.fields n)) s = .next (refusedAs tag 16 .outOfRange s)) ∧
    (TakesPlanOrders s → s.plan.autoEffective = false → exec (.autoExchangeOn tag (.fields ())) s = .next
      (answered tag 16 .accepted .none { heard s with plan := { s.plan with autoPending := true } })) ∧
    (TakesPlanOrders s → s.plan.autoEffective = true → exec (.autoExchangeOn tag (.fields ())) s = .next
      (answered tag 16 .accepted .none (heard s))) ∧
    (TakesPlanOrders s → exec (.autoExchangeOff tag (.fields 0)) s = .next
      (answered tag 16 .accepted .none
        { heard s with plan := { s.plan with autoPending := false, autoEffective := false } }))

/-! ## FAULT-CLEAR, STATUS, RESET, FORWARD and the receiver -/

/-- FAULT-CLEAR: a code unknown or a subject out of range is OUT-OF-RANGE, a code that is not cleared by order or has
nothing to clear is NOT-IN-STATE, and else an ACTIVE entry becomes GONE and a FAILED pump becomes IDLE, upon which the
arbiter acts (R102, R184). -/
def Obligations.FaultClearTaken : Prop :=
  ∀ (s : State) (tag n x : Nat), TakesOrders s →
    let e := Instr.faultClear tag (.fields ⟨n, x⟩)
    let gone := makeGone .pumpFailed x (heard s)
    ((n = 0 ∨ 11 < n) → exec e s = .next (refusedAs tag 17 .outOfRange s)) ∧
    (∀ code, faultCodeOf n = some code → code.subjectOk x = false →
      exec e s = .next (refusedAs tag 17 .outOfRange s)) ∧
    (∀ code, faultCodeOf n = some code → code.subjectOk x = true → code ≠ .pumpFailed → code ≠ .valveFault →
      exec e s = .next (refusedAs tag 17 .notInState s)) ∧
    (n = 5 → x < 4 → findFault s .pumpFailed x = none → (pumpRec s x).stage ≠ .failed →
      exec e s = .next (refusedAs tag 17 .notInState s)) ∧
    (n = 6 → x < 64 → findFault s .valveFault x = none → exec e s = .next (refusedAs tag 17 .notInState s)) ∧
    (n = 6 → x < 64 → findFault s .valveFault x ≠ none →
      exec e s = .next (answered tag 17 .accepted .none (makeGone .valveFault x (heard s)))) ∧
    (n = 5 → x < 4 → (pumpRec s x).stage = .failed →
      exec e s = .next (answered tag 17 .accepted .none
        (arbiter (setPump x { pumpRec s x with stage := .idle, trouble := false } gone)))) ∧
    (n = 5 → x < 4 → findFault s .pumpFailed x ≠ none → (pumpRec s x).stage ≠ .failed →
      exec e s = .next (answered tag 17 .accepted .none gone))

/-- STATUS reports the state as it stands, its own place counted, even in a SETUP-END write; RESET makes a reset pending;
an order of no name is UNKNOWN; a discarded frame is counted; a start byte begins a collection; and a line frame outside
every slot counts for nothing (R165, R171, R172, R177, R178). STATUS gives the line period in force (log entry 55) and in
SETUP the phase that SETUP holds back (log entry 47). -/
def Obligations.ConsoleEventsTaken : Prop :=
  ∀ (s : State) (tag : Nat),
    (Hears s → exec (.status tag (.fields ())) s = .next (answered tag 18 .accepted (.status
      { phase := match s.start.phase with
          | .selfCheck => 0
          | .enumerate => 1
          | .announce => 2
          | .ready => 3
          | .run => 4
        setup := s.start.setup
        writing := s.start.write.isSome
        cycle := s.line.lastClosed
        period := s.line.period
        overall := overallClass s
        summary := s.fault.summary
        listFull := s.fault.listFull
        designated := s.plan.designated
        stateA := (ctxRec s .a).state
        stateB := (ctxRec s .b).state
        inFlight := s.plan.exchange.map ExchangeRec.outgoing
        autoPending := s.plan.autoPending
        autoEffective := s.plan.autoEffective
        supplySeen := s.start.supplySeen
        orderedSeen := s.start.orderedSeen
        reports := s.report.queue.length
        places := s.console.places.length + 1
        samples := s.console.relay.length
        discardedFrames := s.console.discardedFrames
        discardedOrders := s.console.discardedOrders
        droppedSamples := s.console.droppedSamples }) (heard s))) ∧
    (TakesOrders s → exec (.reset tag (.fields ())) s = .next
      (answered tag 19 .accepted .none { heard s with console := { (heard s).console with resetPending := true } })) ∧
    (TakesOrders s → ∀ code, exec (.unknownOrder tag (.fields code)) s = .next (refusedAs tag code .unknown s)) ∧
    (s.start.inReset = none → ∀ cause, exec (.inboundFrameDiscard cause) s = .next
      { heard s with console := { (heard s).console with
          discardedFrames := if s.console.discardedFrames < 65535 then s.console.discardedFrames + 1
            else s.console.discardedFrames } }) ∧
    (s.start.inReset = none → exec .startByte s = .next
      { s with console := { s.console with collecting := true } }) ∧
    ∀ frame, exec (.frameOutsideSlot frame) s = .next s

/-- FORWARD: refused before enumeration has ended, for no address of the line, for an ABSENT node, for a node owned by
the Pump Unit and with 8 entries queued, in this order; else the maintenance frame joins the actuator command queue and
the reply carries how many are queued (R168 to R170, R179). -/
def Obligations.ForwardTaken : Prop :=
  ∀ (s : State) (tag node : Nat) (bytes : List Byte), TakesOrders s →
    let e := Instr.forward tag (.fields ⟨node, bytes⟩)
    (s.line.enumeration ≠ .ended → exec e s = .next (refusedAs tag 0 .notInState s)) ∧
    (s.line.enumeration = .ended → (node = 0 ∨ 30 < node) → exec e s = .next (refusedAs tag 0 .outOfRange s)) ∧
    (s.line.enumeration = .ended → 1 ≤ node → node ≤ 30 →
      ((nodeRec s node).state = .absent → exec e s = .next (refusedAs tag 0 .notInState s)) ∧
      ((nodeRec s node).state ≠ .absent → nodeOwned s node = true →
        exec e s = .next (refusedAs tag 0 .owned s)) ∧
      ((nodeRec s node).state ≠ .absent → nodeOwned s node = false →
        (8 ≤ forwardCount s → exec e s = .next (refusedAs tag 0 .queueFull s)) ∧
        (forwardCount s < 8 → exec e s = .next (answered tag 0 .accepted (.forward (forwardCount s + 1))
          { heard s with line := { s.line with queue := s.line.queue ++ [.forward node bytes] } }))))

/-! ## The field line -/

/-- The cycle mark takes the line period into force and carries the cycle number; the command slot carries the safe sweep
first, else UNASSIGN or ASSIGN, else up to 4 entries of the queue, whose PUMP entries are reported placed; and the end of
an enumeration tells LINE-BREAK where no node was assigned and the Line Map names one, and outside SETUP brings ANNOUNCE with
its IDENT and the grace of the channels never valid (R13, R89, R158, R159, R162, R164, R167, R168, R189). That a slot with
UNASSIGN or ASSIGN holds nothing else is log entry 23, the break count kept at the end of an enumeration log entry 25, and
that a mark or slot out of its place changes nothing log entry 7. The model's reading too are the count of closes that begins
at 0 where an enumeration ends in SETUP (log entry 24), the cycle number of the IDENT (log entry 33), and LINE-BREAK told
before the IDENT is posted (log entry 56). -/
def Obligations.MarkAndSlotTaken : Prop :=
  ∀ s : State, s.start.inReset = none →
    (s.line.part = .beforeMark → exec .lineCycleMark s = .next { s with
      line := { s.line with
        part := .afterMark, period := s.settings.linePeriod, driven := [markFrame s.line.cycle] }
      start := { s.start with
        sweep := if s.start.phase = .announce ∧ s.start.sweep = .awaitingMark then .marked else s.start.sweep } }) ∧
    (s.line.part ≠ .beforeMark → exec .lineCycleMark s = .next s) ∧
    (s.line.part ≠ .afterMark → exec .commandSlot s = .next s) ∧
    (s.line.part = .afterMark →
      let slot : LineState := { s.line with
        part := .afterSlot
        slots := ((List.range 30).map (· + 1)).filter (fun a => (nodeRec s a).state != .absent)
        slotAt := 0
        heard := []
        assign := .none }
      let rest := s.line.sweep.drop 4
      let sweeping : LineState := { slot with
        sweep := rest, driven := (s.line.sweep.take 4).map (fun c => commandFrame c.out c.command) }
      let out := s.line.queue.take 4
      let posted := (out.filter (fun e => !e.isForward)).length
      (s.line.sweep ≠ [] → (rest ≠ [] ∨ s.line.enumeration ≠ .sweeping) →
        exec .commandSlot s = .next { s with line := sweeping }) ∧
      (s.line.sweep ≠ [] → rest = [] → s.line.enumeration = .sweeping →
        ∃ t, exec .commandSlot s = .next t ∧ OnlyChanges [.chan, .report, .line, .fault, .start] s t ∧
          t.line = { sweeping with enumeration := .ended } ∧
          (NoneAnswered s → EnumerationEnded s (tellActive .lineBreak 0 s) t ∧
            (s.fault.list.length < 32 → Listed t .lineBreak 0)) ∧
          (¬ NoneAnswered s → EnumerationEnded s s t) ∧
          (s.start.setup = false → t.report.conditionCount = 0 ∧ t.report.progressCount = 0 ∧
            (s.report.queue.length < 23 → Queued t (.ident (identReport s))))) ∧
      (s.line.sweep = [] → s.line.enumeration = .unassignDue → exec .commandSlot s = .next
        { s with line := { slot with enumeration := .giving 1 0, driven := [unassignFrame] } }) ∧
      (∀ a u, s.line.sweep = [] → s.line.enumeration = .giving a u → exec .commandSlot s = .next
        { s with line := { slot with assign := .placed, driven := [assignFrame a] } }) ∧
      (s.line.sweep = [] → s.line.enumeration ≠ .unassignDue → (∀ a u, s.line.enumeration ≠ .giving a u) →
        ∃ t, exec .commandSlot s = .next t ∧ OnlyChanges [.line, .pump] s t ∧
          t.line = { slot with queue := s.line.queue.drop 4, driven := out.map QueueEntry.frame } ∧
          t.pump.postings = s.pump.postings.drop posted ∧
          ∀ p < 4, pumpRec t p = { pumpRec s p with
            placed := (pumpRec s p).placed || (s.pump.postings.take posted).any (fun q => q.watch == some p) }))

/-- The assignment slot: an ASSIGNED frame whose check passes fills the Node Table entry, ACTIVE when the Line Map names
its kind and count and FOREIGN otherwise, and the next address is given; a frame that fails its check, or that carries
another address or is no ASSIGNED frame of two bytes, leaves the ASSIGN unanswered (R162, R163). That a node of a named kind
keeps a count outside 1 to 8 is log entry 52. -/
def Obligations.AssignedFramesTaken : Prop :=
  ∀ (s : State) (a u : Nat), SlotsPassing s → s.line.enumeration = .giving a u → s.line.assign = .placed →
    (∀ kind count, 1 ≤ a → a ≤ 30 → kind < 256 → count < 256 →
      let node : NodeRec := match nodeKindOf kind with
        | none => ⟨.foreign, none, none, 0⟩
        | some k => ⟨if mapEntry s a = some ⟨k, count⟩ then .active else .foreign, some k, some count, 0⟩
      exec (.assigned (lineFrame 5 a [BitVec.ofNat 8 kind, BitVec.ofNat 8 count])) s = .next
        { s with line := { s.line with
            nodes := s.line.nodes.setIfInBounds (a - 1) node
            enumeration := .giving (a + 1) 0
            assign := .answered
            slotAt := 31 } }) ∧
    ∀ frame, (∀ f, readLineFrame frame = some f → f.ty ≠ 5 ∨ f.addr ≠ a ∨ f.body.length ≠ 2) →
      exec (.assigned frame) s = .next { s with line := { s.line with assign := .failed, slotAt := 31 } }

/-- An answer frame in its slot: one that fails its checks is discarded; a usable one clears the missed count, brings a
SILENT node back, and is relayed with an item for each value, the oldest relayed frame giving way and counted when 128 wait
(R10, R165, R166, R175). It gives each receiving channel of a GAUGE or DRAUGHT node its sample, and an ACTUATOR node's
values are fed back one by one to the valves and pumps they belong to, in output order (R5, R8, R84; log entry 56; what one
feedback does, FeedbackTaken says). A FOREIGN node's frame is relayed alone. Whatever the node, the first usable frame after
LINE-BREAK makes the break count 0 and tells that LINE-BREAK has ended, and one of a SILENT node tells first that NODE-SILENT
has ended (R166, R167; log entry 56); the frame is the work of the Line Controller, the Channel Unit and the Pump Unit, each
once and in whatever order (R165; log entry 5). A count below 3 becomes 0 at the close of the cycle (CycleCloses). -/
def Obligations.AnswerFramesTaken : Prop :=
  ∀ (s : State) (slot : Nat) (frame : List Byte) (order : List FrameWork), SlotsPassing s → slot ∈ s.line.slots →
    s.line.slotAt < slot → slot ≤ 30 →
    let n := nodeRec s slot
    (usableValues s slot frame = none → exec (.answerFrame slot frame order) s = .next
      { s with line := { s.line with slotAt := slot } }) ∧
    ∀ values, usableValues s slot frame = some values →
      ∃ t, exec (.answerFrame slot frame order) s = .next t ∧
        nodeRec t slot = { n with missed := 0, state := if n.state = .silent then .active else n.state } ∧
        t.line.slotAt = slot ∧ t.line.heard = slot :: s.line.heard ∧
        t.line.breakCount = (if s.line.breakCount = 3 then 0 else s.line.breakCount) ∧
        (∃ works, works.Perm [.line, .channels, .pumps] ∧ (order.Perm works → works = order) ∧
          t = withProgress (fun u => works.foldl (fun u w => frameWork slot n.state n.kind values w u)
            { u with line := { u.line with slotAt := slot, heard := slot :: u.line.heard } }) s) ∧
        (∀ u, frameWork slot n.state n.kind values .line u =
          let r := nodeRec u slot
          let back := setNode slot { r with missed := 0, state := if r.state = .silent then .active else r.state } u
          let told := if r.state = .silent then tellEnded .nodeSilent slot back else back
          if u.line.breakCount = 3 then tellEnded .lineBreak 0 { told with line := { told.line with breakCount := 0 } }
          else told) ∧
        (Safety.FaultListOk s → (n.state = .silent → ¬ Listed t .nodeSilent slot) ∧
          (s.line.breakCount = 3 → ¬ Listed t .lineBreak 0)) ∧
        (n.state = .foreign →
          let told := if s.line.breakCount = 3 then tellEnded .lineBreak 0 s else s
          t.fault = told.fault ∧ t.report = told.report) ∧
        (s.settings.relay = false → t.console = s.console) ∧
        (s.settings.relay = true → ∃ f : SampleFrame, f.node = slot ∧ f.cycle = s.line.cycle ∧
          f.items.map SampleItem.raw = values ∧
          (∀ x ∈ f.items, (n.state = .foreign ∨ n.kind = none ∨ n.kind = some .actuator) →
            x.cls = none ∧ x.sounding = none ∧ x.binding = none) ∧
          (∀ (i : Nat) (x : SampleItem) (kind : NodeKind), f.items[i]? = some x → n.state ≠ .foreign →
            n.kind = some kind → kind ≠ .actuator →
            (receivingChannel s slot i kind = none → x.cls = none ∧ x.sounding = none ∧ x.binding = none) ∧
            ∀ c e, receivingChannel s slot i kind = some c → chanEntry s c = some e →
              x.cls = some (sampleClass e x.raw) ∧ x.binding = e.binding ∧
              x.sounding = if sampleClass e x.raw = .fault then none else some (sounding e x.raw)) ∧
          (s.console.relay.length < 128 →
            t.console = { s.console with relay := s.console.relay ++ [f] }) ∧
          (128 ≤ s.console.relay.length → t.console = { s.console with
            relay := s.console.relay.tail ++ [f]
            droppedSamples := if s.console.droppedSamples < 65535 then s.console.droppedSamples + 1
              else s.console.droppedSamples })) ∧
        (n.state = .foreign → OnlyChanges [.line, .console, .fault, .report] s t) ∧
        (n.state ≠ .foreign → n.kind = some .actuator →
          OnlyChanges [.line, .console, .tank, .pump, .plan, .hull, .fault, .report] s t ∧
          (let u := takeFeedbacks slot 0 values s;
            t.tank = u.tank ∧ t.pump = u.pump ∧ t.plan = u.plan ∧ t.hull = u.hull ∧ t.line.queue = u.line.queue) ∧
          (∀ (i v k : Nat), values[i]? = some v → tankOfOutput s ⟨slot, i⟩ = some k →
            (tankRec t k).valve = some (valveFeedbackOf v)) ∧
          ∀ (i v p : Nat), values[i]? = some v → tankOfOutput s ⟨slot, i⟩ = none → pumpOfOutput s ⟨slot, i⟩ = some p →
            (pumpRec t p).starter = some (starterFeedbackOf v)) ∧
        ∀ kind, n.state ≠ .foreign → n.kind = some kind → kind ≠ .actuator →
          OnlyChanges [.line, .console, .chan, .tank, .fault, .report] s t ∧
          (let u := takeValues slot kind 0 values s;
            t.chan = u.chan ∧ t.tank = u.tank) ∧
          ∀ (i v c : Nat) (e : ChannelEntry), values[i]? = some v → receivingChannel s slot i kind = some c →
            chanEntry s c = some e → sampleClass e v ≠ .fault →
            chanRec t c = ⟨.fresh, 0, true, some (sounding e v), some (sampleClass e v), true, false⟩

/-- A channel value or a change of validity handed on for a tank: from a channel that the tank does not name for the role, or
to a mis-bound tank, it changes nothing; else the view of the role takes it, and the source, the disagreement and the class
follow. A value on the source begins a sample conversion, a change of validity that moves the source to the other role begins
a re-conversion of its sounding, and the rate ends with its source; with no conversion begun the class is written at once
(R28 to R33, R36). That source and disagreement are written and told at the hand-on, while the class waits for the end of a
conversion that it begins, is log entry 9. -/
def Obligations.ViewsTaken : Prop :=
  (∀ (s : State) (c k : Nat) (role : Role) (snd : Nat) (cls : SampleClass), k < 64 →
    let t := handValue c k role snd cls s
    let r := tankRec s k
    let u := tankRec t k
    (¬ Names s k role c → t = s) ∧
    (Names s k role c → Judged s t k ∧
      u = { r.setView role ⟨.fresh, some snd, some cls⟩ with
        source := u.source, disagreement := u.disagreement, cls := u.cls, conv := u.conv, waiting := u.waiting } ∧
      (sourceNow s k u = some role → Converts s t k ⟨.sample, role, snd⟩) ∧
      (sourceNow s k u ≠ some role → GradedAtOnce s t k))) ∧
  ∀ (s : State) (c k : Nat) (role : Role) (v : Validity), k < 64 →
    let t := handValidity c k role v s
    let r := tankRec s k
    let u := tankRec t k
    let ends := r.source = role
    (¬ Names s k role c → t = s) ∧
    (Names s k role c → Judged s t k ∧
      u = { r.setView role { r.view role with validity := v } with
        source := u.source, disagreement := u.disagreement, cls := u.cls, conv := u.conv, waiting := u.waiting
        rate := if ends then none else r.rate, rateBasis := if ends then none else r.rateBasis } ∧
      (∀ x snd, sourceNow s k u = some x → sourceNow s k r ≠ some x → (r.view x).sounding = some snd → x ≠ role →
        Converts s t k ⟨.reconvert, x, snd⟩) ∧
      ((sourceNow s k u = none ∨ sourceNow s k u = sourceNow s k r) → GradedAtOnce s t k))

/-- The end of a conversion writes the volume and the mass at the density it read, the rate when the basis allows, and
the class; then a density that waited comes into force and the next conversion begins; a sample conversion that reaches
the target of a tank in RUNNING sets its done mark and takes its pump to STOPPING (R19, R24, R26, R27, R30, R33, R93). That the
class is written at this end also while the conversion of a later event waits is the model's choice (log entry 63). -/
def Obligations.ConversionEnds : Prop :=
  ∀ (s : State) (k : Nat) (f : TankFix) (c : Conversion), s.start.inReset = none → k < 64 → tankFix s k = some f →
    (tankRec s k).conv = some c →
    let r := tankRec s k
    let volume := volumeAt f.points (correctedSounding f c.trim c.request.sounding)
    let mass := massOf volume c.density
    let reached (v : Service) : Prop := (v.action = .discharge ∧ mass ≤ v.target) ∨ (v.action = .fill ∧ v.target ≤ mass)
    ∃ t, exec (.conversionEnd k) s = .next t ∧ OnlyChanges [.tank, .pump, .plan, .line] s t ∧
      (tankRec t k).volume = volume ∧ (tankRec t k).mass = massOf volume (r.newDensity.getD c.density) ∧
      (tankRec t k).cls = gradeTank s k r ∧ (tankRec t k).newDensity = none ∧
      density t k = r.newDensity.getD (density s k) ∧
      (r.newDensity = none → (tankRec t k).rate =
        if c.request.kind = .sample ∧ r.rateBasis = some c.request.role then some ((mass : Int) - r.mass) else none) ∧
      (tankRec t k).waiting = r.waiting.tail ∧
      (tankRec t k).conv =
        r.waiting.head?.map (fun q => (⟨q, s.tank.convTrim, r.newDensity.getD (density s k)⟩ : Conversion)) ∧
      (∀ j ≠ k, tankRec t j = tankRec s j) ∧
      ((c.request.kind ≠ .sample ∨ r.serving = none ∨ r.service = none) → OnlyChanges [.tank] s t) ∧
      ∀ p v, c.request.kind = .sample → r.serving = some p → p < 4 → r.service = some v →
        ((pumpRec s p).stage ≠ .running ∨ ¬ reached v → OnlyChanges [.tank] s t) ∧
        ((pumpRec s p).stage = .running → reached v →
          (pumpRec t p).stage = .stopping ∧ (pumpRec t p).counter = 0 ∧ (pumpRec t p).placed = false ∧
          ∀ d i x, (pumpRec s p).job = some (d, i) → (ctxRec s d).steps[i]? = some x →
            ((ctxRec t d).steps[i]?) = some { x with
              done := x.done.modify ((stepTanks (ctxRec s d) i).findIdx (fun e => e.tank == k)) (fun _ => true) })

/-- A cycle close, in whatever order the blocks do their work: the next cycle number, the CURRENT flag pending, each
channel in use judged once and a change of its validity handed on to the view of its tank, each missed slot counted with
NODE-SILENT and the break count with LINE-BREAK, every report eligible, and READY passed on to RUN; the settings, the holds,
the console and the tables stay (R11, R13, R28, R59, R147, R158, R159, R166, R167, R189). It is the work of the eight blocks,
each once, and the work of each is said for every state it may come at: the pumps' phase counters with their timeouts and the
flow check, the confirm count, the line's counts, the condition and progress counters with their reports, and each FAULT
report owed posted again (R89, R99, R125, R153, R155, R162, R166, R167, R183, R190). The order of the units within one block
is log entry 56, the cycle number of a FAULT report log entry 33. That a CYCLE_CLOSE out of its place changes nothing is log
entry 7; of a close of which a step was taken ahead (log entry 6) nothing is said here. -/
def Obligations.CycleCloses : Prop :=
  ∀ (s : State) (order : List CloseWork),
    (¬ (s.start.inReset = none ∧ s.line.part = .afterSlot) → exec (.cycleClose order) s = .next s) ∧
    (CloseDue s → ∃ t, exec (.cycleClose order) s = .next t ∧
      (∃ works, works.Perm [.line, .channels, .pumps, .plan, .hull, .reports, .faults, .start] ∧
        (order.Perm works → works = order) ∧
        (let v := works.foldl (fun u w => closeWork w u)
            { s with close := ⟨true, []⟩, line := { s.line with lastClosed := s.line.cycle } };
          t = { v with
            line := { v.line with cycle := (v.line.cycle + 1) % 256, part := .beforeMark }
            start := { v.start with sweep := if v.start.sweep = .marked then .complete else v.start.sweep }
            close := ⟨false, []⟩ })) ∧
      t.line.breakCount = (if s.line.enumeration ≠ .ended then s.line.breakCount
        else if s.line.heard ≠ [] then 0
        else if s.line.slots = [] then s.line.breakCount else bump 3 s.line.breakCount) ∧
      (∀ a, 1 ≤ a → a ≤ 30 → (nodeRec t a).state =
        if a ∈ s.line.slots ∧ a ∉ s.line.heard ∧ s.line.enumeration = .ended ∧ (nodeRec s a).state = .active ∧
          2 ≤ (nodeRec s a).missed then .silent else (nodeRec s a).state) ∧
      ((∀ a u, s.line.enumeration ≠ .giving a u) → t.report.conditionCount =
        if announced s = false then s.report.conditionCount
        else if s.settings.conditionPeriod ≤ bump 255 s.report.conditionCount then 0
        else bump 255 s.report.conditionCount) ∧
      OnlyChanges [.chan, .tank, .hull, .pump, .plan, .report, .line, .fault, .start, .close] s t ∧
      t.line.cycle = (s.line.cycle + 1) % 256 ∧ t.line.lastClosed = s.line.cycle ∧ t.line.part = .beforeMark ∧
      t.hull.currentFlag = true ∧ t.close = ⟨false, []⟩ ∧ (∀ e ∈ t.report.queue, e.eligible = true) ∧
      (s.start.phase = .ready → (∀ a u, s.line.enumeration ≠ .giving a u) → t.start.phase = .run) ∧
      (∀ a, 1 ≤ a → a ≤ 30 → a ∈ s.line.slots → a ∉ s.line.heard →
        (nodeRec t a).missed = bump 255 (nodeRec s a).missed) ∧
      ∀ c < 96, ∀ e, chanEntry s c = some e →
        let r := chanRec s c
        let age := bump 255 r.age
        (chanRec t c).usable = false ∧ (chanRec t c).lastGood = r.lastGood ∧
        (chanRec t c).lastClass = r.lastClass ∧ (chanRec t c).everValid = r.everValid ∧
        (chanRec t c).validity = (if r.usable = true then r.validity
          else if r.validity = .lost ∨ r.everValid = false ∨ s.settings.staleLimit < age then .lost else .held) ∧
        ((∀ a u, s.line.enumeration ≠ .giving a u) →
          (chanRec t c).age = (if r.usable = true then r.age else age) ∧
          (chanRec t c).lossRaised = (r.lossRaised || (!r.usable && announced s &&
            (chanRec t c).validity == .lost && decide (s.settings.staleLimit < age)))) ∧
        ∀ k role, k < 64 → e.binding = some (.tank k role) → namedFor s k role c = true →
          (tankRec t k).view role = if (chanRec t c).validity = r.validity then (tankRec s k).view role
            else { (tankRec s k).view role with validity := (chanRec t c).validity }) ∧
    ∀ u : State, u.close.taken = [] →
      closeWork .pumps u = withProgress (fun v => [0, 1, 2, 3].foldl (fun v p => pumpCounted p v) v) u ∧
      closeWork .plan u = confirmCounted u ∧
      closeWork .line u =
        assignCounted (breakCounted (((List.range 30).map (· + 1)).foldl (fun v a => missCounted v a) u)) ∧
      closeWork .hull u = { u with hull := { u.hull with currentFlag := true } } ∧
      closeWork .reports u = reportsCounted u ∧
      (Safety.FaultListOk u → closeWork .faults u =
        (u.fault.list.filter FaultEntry.owed).foldl (fun v e => faultPosted e v) u) ∧
      closeWork .start u = startCounted u

/-- The steps of a cycle close that the table lists on their own, each at its moment: a channel goes LOST, a node goes
SILENT, the line breaks, addresses stop being given, SETUP sweeps again, a confirmation comes late, and the periodic
reports are posted (R11, R13, R14, R28, R125, R153, R155, R162 to R167, R190; log entry 6). Where addresses stop being given
with an empty sweep list the enumeration ends at this close, with LINE-BREAK where no node was assigned and the Line Map names
one, told after LINE-MAP-MISMATCH and before ANNOUNCE and its IDENT (R164, R167, R189; the order is log entry 56, the count
of closes in SETUP log entry 24). Faults and reports told at a close carry the number of the cycle that closes (log
entry 26). -/
def Obligations.CloseStepsTaken : Prop :=
  ∀ s : State, s.start.inReset = none → s.line.part = .afterSlot →
    let b := beginClose s
    (∀ (c : Nat) (e : ChannelEntry), c < 96 → CloseStep.channel c ∉ s.close.taken → chanEntry s c = some e →
      let r := chanRec s c
      let age := bump 255 r.age
      r.usable = false → r.validity ≠ .lost → (r.everValid = false ∨ s.settings.staleLimit < age) →
      ∃ t, exec (.channelStale c) s = .next (takeStep (.channel c) t) ∧ OnlyChanges [.chan, .tank, .report, .fault] b t ∧
        (chanRec t c).validity = .lost ∧ (chanRec t c).age = age ∧ (∀ d ≠ c, chanRec t d = chanRec s d) ∧
        (∀ m, e.binding = some (.mark m) → t.tank = s.tank ∧ t.chan.draughts = match m with
          | .fore => { s.chan.draughts with fore := none }
          | .aft => { s.chan.draughts with aft := none }
          | .midPort => { s.chan.draughts with midPort := none }
          | .midStbd => { s.chan.draughts with midStbd := none }) ∧
        (∀ k role, e.binding = some (.tank k role) → t.chan.draughts = s.chan.draughts ∧
          t.tank = (handValidity c k role .lost b).tank) ∧
        (announced s = true → s.settings.staleLimit < age → r.lossRaised = false →
          (chanRec t c).lossRaised = true ∧ (s.fault.list.length < 32 → Listed t .channelLost c))) ∧
    (∀ a, 1 ≤ a → a ≤ 30 → CloseStep.node a ∉ s.close.taken → a ∈ s.line.slots → a ∉ s.line.heard →
      s.line.enumeration = .ended → (nodeRec s a).state = .active → 2 ≤ (nodeRec s a).missed →
      exec (.nodeSilent a) s = .next (takeStep (.node a) (tellActive .nodeSilent a
        (setNode a { nodeRec s a with missed := bump 255 (nodeRec s a).missed, state := .silent } b)))) ∧
    (CloseStep.lineBreak ∉ s.close.taken → s.line.enumeration = .ended → s.line.slots ≠ [] → s.line.heard = [] →
      s.line.breakCount = 2 →
      exec .lineBreak s = .next (takeStep .lineBreak (tellActive .lineBreak 0
        { b with line := { b.line with breakCount := 3 } }))) ∧
    (∀ a u, CloseStep.assign ∉ s.close.taken → s.line.enumeration = .giving a u →
      (30 < a ∨ 3 ≤ u ∨ (u = 2 ∧ (s.line.assign = .placed ∨ s.line.assign = .failed))) →
      ∃ t, exec .enumerationAddressingStop s = .next (takeStep .assign t) ∧ t.line.assign = .none ∧
        t.line.sweep = sweepList s ∧
        (let told := if mapMismatch s then tellActive .lineMapMismatch 0 b else b;
          (sweepList s ≠ [] → t.line.enumeration = .sweeping ∧ OnlyChanges [.report, .line, .fault] b t ∧
            t.fault = told.fault ∧ t.report = told.report) ∧
          (sweepList s = [] → t.line.enumeration = .ended ∧ t.line.breakCount = s.line.breakCount ∧
            OnlyChanges [.chan, .report, .line, .fault, .start] b t ∧
            (NoneAnswered s → EnumerationEnded b (tellActive .lineBreak 0 told) t ∧
              (s.fault.list.length < 31 → Listed t .lineBreak 0)) ∧
            (¬ NoneAnswered s → EnumerationEnded b told t))) ∧
        (mapMismatch s = true → s.fault.list.length < 31 → Listed t .lineMapMismatch 0)) ∧
    (CloseStep.setupSweep ∉ s.close.taken → s.start.setup = true → s.line.enumeration = .ended →
      49 ≤ s.start.setupCloses →
      exec .setupSafeSweep s = .next (takeStep .setupSweep
        { b with start := { s.start with setupCloses := 0 }, line := { b.line with sweep := sweepList s } })) ∧
    (∀ p, CloseStep.confirm ∉ s.close.taken → (designatedRec s).plan = some p → currentState s = some .running →
      p.period ≤ (designatedRec s).confirmCount + 1 →
      let r := designatedRec s
      exec .confirmLate s = .next (takeStep .confirm (withProgress (fun _ =>
        stopAll (stepTanks r r.index) (setCtx s.plan.designated
          { r.putStep r.index (.held .confirmLate) with confirmCount := bump 600 r.confirmCount } b)) b))) ∧
    (CloseStep.condition ∉ s.close.taken → announced s = true →
      s.settings.conditionPeriod ≤ bump 255 s.report.conditionCount →
      exec .conditionPeriod s = .next (takeStep .condition (post (.condition (conditionReport s))
        { b with report := { s.report with conditionCount := 0 } }))) ∧
    (CloseStep.progress ∉ s.close.taken → announced s = true →
      ((designatedRec s).state = .active ∨ (designatedRec s).state = .paused) →
      s.settings.progressPeriod ≤ bump 255 s.report.progressCount →
      exec .progressPeriod s = .next (takeStep .progress (post (.progress (progressReport b s.plan.designated))
        { b with report := { s.report with progressCount := 0 } })))

/-! ## Pumps -/

/-- A posting for a tank that is queued or served, or that finds 16 entries, changes nothing; else the entry joins the tail
and the arbiter acts (R87). While the Tank Table and the Actuator Map are valid the arbiter considers the pumps 0 to 3 in
turn: an IDLE pump is granted the oldest entry whose reach set holds it, which pairs both records and takes the entry out of
the queue, and any other pump is left (R86, R88, R90). A stop request takes a queued tank's entry away, a pump in OPENING to
CLOSING, one in STARTING or RUNNING to STOPPING, and changes nothing else; and a pump that enters a stage of its service has
its counter 0, command placed clear, and the stage's command posted (R89, R96). -/
def Obligations.PumpRequestsTaken : Prop :=
  (∀ (s : State) (e : ReqEntry),
    let kept := (∃ x ∈ s.pump.queue, x.tank = e.tank) ∨ (tankRec s e.tank).serving ≠ none ∨ 16 ≤ s.pump.queue.length
    (kept → requestPump e s = s) ∧
    (¬ kept → requestPump e s = arbiter { s with pump := { s.pump with queue := s.pump.queue ++ [e] } })) ∧
  (∀ s : State,
    (s.tables.tank = none ∨ s.tables.actuator = none → arbiter s = s) ∧
    (s.tables.tank ≠ none → s.tables.actuator ≠ none →
      arbiter s = considerPump 3 (considerPump 2 (considerPump 1 (considerPump 0 s))))) ∧
  (∀ (s : State) (p : Nat),
    ((pumpRec s p).stage ≠ .idle ∨ (∀ e ∈ s.pump.queue, reaches s e.tank p = false) → considerPump p s = s) ∧
    ∀ before e after, (pumpRec s p).stage = .idle → s.pump.queue = before ++ e :: after → reaches s e.tank p = true →
      (∀ x ∈ before, reaches s x.tank p = false) →
      considerPump p s = enterStage p e.tank .opening { s with
        pump := { s.pump with
          queue := before ++ after
          recs := s.pump.recs.setIfInBounds p { pumpRec s p with
            tank := some e.tank, job := some (e.ctx, e.step), trouble := false, clean := false } }
        tank := { s.tank with
          recs := s.tank.recs.setIfInBounds e.tank { tankRec s e.tank with serving := some p } } }) ∧
  ∀ (s : State) (k : Nat),
    let queued := ∃ e ∈ s.pump.queue, e.tank = k
    (queued → stopRequest k s = { s with pump := { s.pump with
      queue := removeFirst (fun e => e.tank == k) s.pump.queue } }) ∧
    (¬ queued → (tankRec s k).serving = none → stopRequest k s = s) ∧
    (∀ p, ¬ queued → (tankRec s k).serving = some p →
      ((pumpRec s p).stage = .opening → stopRequest k s = enterStage p k .closing s) ∧
      ((pumpRec s p).stage = .starting ∨ (pumpRec s p).stage = .running →
        stopRequest k s = enterStage p k .stopping s) ∧
      ((pumpRec s p).stage = .stopping ∨ (pumpRec s p).stage = .closing → stopRequest k s = s)) ∧
    ∀ (p : Nat) (o : OutputRef) (stage : PumpStage) (cmd : ActCommand), s.line.queue.length < 32 →
      stageCommand s p k stage = some (some o, cmd) →
      enterStage p k stage s = { s with
        pump := { s.pump with
          recs := s.pump.recs.setIfInBounds p { pumpRec s p with stage := stage, counter := 0, placed := false }
          postings := s.pump.postings.map (fun q => if q.watch = some p then ⟨none⟩ else q) ++ [⟨some p⟩] }
        line := { s.line with queue := s.line.queue ++ [.pump o cmd] } }

/-- What a feedback does: it is written, and moves the pump that serves the tank, or the pump of the starter, only when its
command is placed (R84, R89). OPEN in OPENING commands START while the pump's tank belongs to the RUNNING step and SUPPLY-LOW
is not active, waits while it is, and else closes; a valve's FAULT in OPENING, and CLOSED or FAULT in STARTING and RUNNING,
raise VALVE-FAULT, ask for the hold and stop the pump; CLOSED or FAULT in CLOSING ends the service. RUNNING in STARTING begins
the first flow window, STOPPED in STOPPING closes the valve, and a fault of the starter or a trip is a failure: STOP and CLOSE
are posted, the pump is FAILED, and a tank of the RUNNING step that is not done asks again. Any other feedback moves nothing
(R86, R91 to R95, R97, R98). That OPEN for a step that no longer runs closes the valve also while SUPPLY-LOW is active is log
entry 38, and that a release keeps the phase counter and command placed the model's choice (log entry 36). -/
def Obligations.FeedbackTaken : Prop :=
  (∀ (s : State) (n o v : Nat),
    (∀ k, tankOfOutput s ⟨n, o⟩ = some k → takeFeedback n o v s = valveReport k
      (if v = 1 then .opened else if v = 2 then .closed else if v = 3 then .moving else .fault) s) ∧
    (∀ p, tankOfOutput s ⟨n, o⟩ = none → pumpOfOutput s ⟨n, o⟩ = some p → takeFeedback n o v s = starterReport p
      (if v = 4 then .running else if v = 5 then .stopped else .fault) s) ∧
    (tankOfOutput s ⟨n, o⟩ = none → pumpOfOutput s ⟨n, o⟩ = none → takeFeedback n o v s = s)) ∧
  (∀ (s : State) (k p : Nat) (f : ValveFeedback) (g : StarterFeedback),
    ((tankRec s k).serving = none → valveReport k f s = setTank k { tankRec s k with valve := some f } s) ∧
    ((pumpRec s p).tank = none → starterReport p g s = setPump p { pumpRec s p with starter := some g } s)) ∧
  ∀ (s : State) (p k : Nat), p < 4 → k < 64 → (tankRec s k).serving = some p → (pumpRec s p).tank = some k →
    let r := pumpRec s p
    let room := s.fault.list.length < 32
    let runs := ∃ c i, r.job = some (c, i) ∧ jobRuns s c i = true ∧ k ∈ (currentTanks s).map PlanEntry.tank
    (∀ f : ValveFeedback,
      let w := setTank k { tankRec s k with valve := some f } s
      let u := valveReport k f s
      let faulty := (r.stage = .opening ∧ f = .fault) ∨
        ((r.stage = .starting ∨ r.stage = .running) ∧ (f = .closed ∨ f = .fault))
      (r.placed = false → u = w) ∧
      (r.placed = true →
        (r.stage = .opening → f = .opened →
          (runs → s.pump.supplyLow = false → u = enterStage p k .starting w) ∧
          (runs → s.pump.supplyLow = true → u = w) ∧ (¬ runs → u = enterStage p k .closing w)) ∧
        (faulty → OnlyChanges [.pump, .tank, .plan, .line, .report, .fault] s u ∧ u.tank = w.tank ∧
          (pumpRec u p).stage = (if r.stage = .opening then .closing else .stopping) ∧ (pumpRec u p).trouble = true ∧
          (pumpRec u p).counter = 0 ∧ (pumpRec u p).placed = false ∧ (room → Listed u .valveFault k) ∧
          ∀ c i, r.job = some (c, i) → jobRuns s c i = true → stepState (ctxRec u c) i = some (.held .valve)) ∧
        (r.stage = .closing → f = .closed →
          u = arbiter (planRelease p k (!r.trouble) (released p k .idle (!r.trouble) w))) ∧
        (r.stage = .closing → f = .fault → u = arbiter (planRelease p k false (released p k .idle false
          (tellActive .valveFault k (setPump p { r with trouble := true } w))))) ∧
        (¬ faulty → ¬ (r.stage = .opening ∧ f = .opened) → ¬ (r.stage = .closing ∧ (f = .closed ∨ f = .fault)) →
          u = w))) ∧
    ∀ g : StarterFeedback,
      let w := setPump p { r with starter := some g } s
      let u := starterReport p g s
      let fails := (g = .fault ∧ (r.stage = .starting ∨ r.stage = .running ∨ r.stage = .stopping)) ∨
        (g = .stopped ∧ r.stage = .running)
      (r.placed = false → u = w) ∧
      (r.placed = true →
        (r.stage = .starting → g = .running → u = setPump p
          { r with starter := some g, stage := .running, counter := 0, startMass := (tankRec s k).mass } s) ∧
        (r.stage = .stopping → g = .stopped → u = enterStage p k .closing w) ∧
        (fails → OnlyChanges [.pump, .tank, .plan, .hull, .line, .report, .fault] s u ∧
          pumpRec u p = { pumpRec u p with stage := .failed, tank := none, job := none, clean := false, trouble := true } ∧
          (tankRec u k).serving ≠ some p ∧ (room → Listed u .pumpFailed p) ∧
          (∀ o v, starterOutput s p = some o → valveOutput s k = some v → s.line.queue.length ≤ 30 →
            ∃ rest, u.line.queue = s.line.queue ++ [.pump o .stop, .pump v .closeValve] ++ rest) ∧
          ∀ c i x, r.job = some (c, i) → runs → (ctxRec s c).steps[i]? = some x → tankDone s k = false →
            false ∈ x.done → s.plan.exchange = none → s.pump.queue.length < 16 →
            (∃ e ∈ u.pump.queue, e.tank = k) ∨ ∃ q, (tankRec u k).serving = some q) ∧
        (¬ fails → ¬ (r.stage = .starting ∧ g = .running) → ¬ (r.stage = .stopping ∧ g = .stopped) → u = w))

/-- The law of R91: START is commanded for a pump only at a counted OPEN feedback of its tank's valve in OPENING, while the
tank belongs to the RUNNING step of the designated context and SUPPLY-LOW is not active: every command that joins the
actuator command queue and is a START is such a one. -/
def Obligations.StartsOnlyWhenAllowed : Prop :=
  ∀ (i : Instr) (s t : State), Safety.DesignationOk s → Safety.PairingOk s → exec i s = .next t →
    ∃ n added, t.line.queue = s.line.queue.drop n ++ added ∧ ∀ o, QueueEntry.pump o .start ∈ added →
      ∃ slot frame order p k, i = .answerFrame slot frame order ∧ p < 4 ∧ k < 64 ∧ starterOutput s p = some o ∧
        (pumpRec s p).stage = .opening ∧ (pumpRec s p).placed = true ∧ (pumpRec s p).tank = some k ∧
        (pumpRec s p).job = some (s.plan.designated, (designatedRec s).index) ∧ currentState s = some .running ∧
        k ∈ (currentTanks s).map PlanEntry.tank ∧ (tankRec t k).valve = some .opened ∧ s.pump.supplyLow = false

/-- The timeouts of a pump's service at a cycle close: in OPENING the valve's fault is raised, the step is asked to hold
and the pump closes; in CLOSING the service ends with the trouble mark's clean-stop flag; in STARTING and STOPPING the
pump fails; and in RUNNING a flow window ends, a new one beginning when the tank moved enough or is INDEFINITE (R91, R92,
R94, R95, R97, R99, R101; log entry 6). -/
def Obligations.PumpTimeoutsTaken : Prop :=
  ∀ (s : State) (p k : Nat), s.start.inReset = none → s.line.part = .afterSlot → p < 4 → k < 64 →
    CloseStep.pump p ∉ s.close.taken → (pumpRec s p).tank = some k →
    let b := beginClose s
    let r := pumpRec s p
    let count := bump 255 r.counter
    let counted := setPump p { r with counter := count } b
    let room := s.fault.list.length < 32
    (r.stage = .opening → r.placed = true → s.pump.supplyLow = false → s.settings.valveTimeout ≤ count →
      ∃ u, exec (.valveTravelTimeout p) s = .next (takeStep (.pump p) (withProgress (fun _ => u) b)) ∧
        (pumpRec u p).stage = .closing ∧ (pumpRec u p).trouble = true ∧ (pumpRec u p).counter = 0 ∧
        (pumpRec u p).placed = false ∧ (room → Listed u .valveFault k) ∧
        (∀ c i, r.job = some (c, i) → jobRuns s c i = true → stepState (ctxRec u c) i = some (.held .valve)) ∧
        OnlyChanges [.pump, .plan, .line, .report, .fault] b u) ∧
    (r.stage = .closing → r.placed = true → s.settings.valveTimeout ≤ count → s.pump.queue = [] →
      ∃ u, exec (.valveTravelTimeout p) s = .next (takeStep (.pump p) (withProgress (fun _ => u) b)) ∧
        (pumpRec u p).stage = .idle ∧ (pumpRec u p).tank = none ∧ (pumpRec u p).job = none ∧
        (pumpRec u p).clean = false ∧ (tankRec u k).serving = none ∧ (room → Listed u .valveFault k)) ∧
    ((r.stage = .starting ∨ r.stage = .stopping) → r.placed = true → s.settings.pumpTimeout ≤ count →
      ∃ u, exec (.pumpStartTimeout p) s = .next (takeStep (.pump p) (withProgress (fun _ => u) b)) ∧
        (pumpRec u p).stage = .failed ∧ (pumpRec u p).tank = none ∧ (pumpRec u p).clean = false ∧
        (tankRec u k).serving ≠ some p ∧ (room → Listed u .pumpFailed p)) ∧
    (r.stage = .running → s.settings.flowWindow ≤ count →
      let mass := (tankRec s k).mass
      let moved := ∃ v, (tankRec s k).service = some v ∧
        ((v.action = .discharge ∧ mass + s.settings.minFlow ≤ r.startMass) ∨
          (v.action = .fill ∧ r.startMass + s.settings.minFlow ≤ mass))
      (((tankRec s k).cls = .indefinite ∨ moved) → exec (.flowWindowEnd p) s = .next
        (takeStep (.pump p) (setPump p { r with counter := 0, startMass := mass } b))) ∧
      ((tankRec s k).cls ≠ .indefinite → ¬ moved → exec (.flowWindowEnd p) s = .next
        (takeStep (.pump p) (withProgress (fun _ => askHold r.job .noFlow counted) b))))

/-! ## The evaluation engine -/

/-- Once SELF-CHECK has ended, and not before, a free engine takes CURRENT, else STEP, else ORDER, clears the flag, copies
its snapshot and takes the next evaluation number; and the snapshot holds the settings, the last cycle to have closed, whether
all four hull tables are valid, for a CURRENT evaluation the measured draughts with their mean and for a projection none, and
the masses, classes and levers as they stand; of the substitutions, whose items are distinct by R61, each puts its item at the
mass given, GOOD and not unsure, with the lever copied, and no other item changes (R15, R38, R62, R63, R65, R66). -/
def Obligations.EvaluationsBegin : Prop :=
  (∀ s : State, s.start.phase = .selfCheck → exec .evaluationBegin s = .next s) ∧
  (∀ s : State, s.start.inReset = none → s.start.phase ≠ .selfCheck →
    let begun (k : EvalKind) (h : HullState) : HullState := { h with
      engine := some ⟨k, s.hull.counter, snapshotNow k s, s.start.sweep == .complete⟩
      counter := (s.hull.counter + 1) % 65536 }
    (s.hull.engine ≠ none → exec .evaluationBegin s = .next s) ∧
    (s.hull.engine = none → s.hull.currentFlag = true → exec .evaluationBegin s = .next
      { s with hull := begun .current { s.hull with currentFlag := false } }) ∧
    (∀ q, s.hull.engine = none → s.hull.currentFlag = false → s.hull.stepFlag = some q →
      exec .evaluationBegin s = .next { s with hull := begun (.step q) { s.hull with stepFlag := none } }) ∧
    ∀ q, s.hull.engine = none → s.hull.currentFlag = false → s.hull.stepFlag = none → s.hull.orderFlag = some q →
      exec .evaluationBegin s = .next { s with
        hull := begun (.order q) { s.hull with orderFlag := none }
        console := { s.console with
          places := s.console.places.map (fun p => if p.state = .onFlag then { p with state := .onEngine } else p) } }) ∧
  ∀ (k : EvalKind) (s : State),
    (snapshotNow k s).settings = s.settings.eval ∧ (snapshotNow k s).cycle = s.line.lastClosed ∧
    (snapshotNow k s).items.length = 76 ∧
    ((snapshotNow k s).tablesValid = true ↔
      s.tables.base ≠ none ∧ s.tables.influence ≠ none ∧ s.tables.limits ≠ none ∧ s.tables.hydro ≠ none) ∧
    (let d := s.chan.draughts;
      (k = .current → (snapshotNow k s).measured = ⟨d.fore, d.aft, d.midPort, d.midStbd,
        d.fore.bind (fun f => d.aft.map (fun a => (f + a) / 2))⟩) ∧
      (k ≠ .current → (snapshotNow k s).measured = ⟨none, none, none, none, none⟩)) ∧
    (∀ h < 12, (∀ q ∈ k.subs, q.item ≠ 64 + h) →
      let r := holdRec s h
      (s.tables.lever = none → (snapshotNow k s).items[64 + h]? = some ⟨r.mass, .indefinite, 0, r.unsure⟩) ∧
      ∀ l x, s.tables.lever = some l → l[h]? = some x →
        (snapshotNow k s).items[64 + h]? = some ⟨r.mass, .good, x, r.unsure⟩) ∧
    (∀ n < 64, (∀ q ∈ k.subs, q.item ≠ n) →
      let r := tankRec s n
      (s.tables.tank = none → (snapshotNow k s).items[n]? = some ⟨r.mass, r.cls, 0, false⟩) ∧
      ∀ f, tankFix s n = some f → (snapshotNow k s).items[n]? =
        if f.primary = none then some ⟨0, .good, 0, false⟩ else some ⟨r.mass, r.cls, f.lever, false⟩) ∧
    ((k.subs.map Substitution.item).Nodup → ∀ q ∈ k.subs, q.item < 76 → ∃ i,
      (snapshotNow .current s).items[q.item]? = some i ∧
        (snapshotNow k s).items[q.item]? = some ⟨q.mass, .good, i.lever, false⟩) ∧
    ∀ n, (∀ q ∈ k.subs, q.item ≠ n) → (snapshotNow k s).items[n]? = (snapshotNow .current s).items[n]?

/-- The completion of a STEP projection replaces its record; when its step waits for it the asked mark is cleared, and
the step enters RUNNING when the four conditions of R113 admit it, with its tanks' service fields written and a pump serving
or asked for each tank not done; a step whose tanks are all done is DONE at once; an ORDER completion answers its PROJECT (R81, R82, R87, R113 to R115). -/
def Obligations.ProjectionsComplete : Prop :=
  ∀ (s : State) (run : Running), s.start.inReset = none → s.hull.engine = some run →
    let res := evaluate s.tables run.number run.snap
    (∀ q, run.kind = .order q → exec .orderCompletion s = .next { s with
      hull := { s.hull with engine := none, orderRec := some ⟨res, q.tag⟩ }
      console := { s.console with places := s.console.places.map (fun p =>
        if p.state = .onEngine then { p with state := .ready .accepted (.project res) } else p) } }) ∧
    ∀ q, run.kind = .step q →
      let c := s.plan.designated
      let r := ctxRec s c
      let base : State := { s with hull := { s.hull with engine := none, stepRec := some ⟨res, q.ctx, q.step⟩ } }
      let waits := q.ctx = c ∧ r.state = .active ∧ r.index = q.step ∧ stepState r r.index = some .gated ∧
        r.asked = true
      let admits (p : PlanStep) := (res.overall = .clear ∨ (res.overall = .warning ∧ p.margin = .warning)) ∧
        (overallClass s = .clear ∨ overallClass s = .warning) ∧
        (∀ g ∈ p.gate, g.minMass ≤ (holdRec s g.hold).mass) ∧ (∀ e ∈ p.entries, (tankRec s e.tank).serving = none)
      (¬ waits → exec .stepCompletion s = .next base) ∧
      ∀ p x, waits → planStep r r.index = some p → r.steps[r.index]? = some x →
        (¬ admits p → exec .stepCompletion s = .next (setCtx c { r with asked := false } base)) ∧
        (admits p → (∀ b ∈ x.done, b = true) →
          ∃ v, exec .stepCompletion s = .next (withProgress (fun _ => advance v) base) ∧
            OnlyChanges [.plan, .tank] base v ∧ v.plan.designated = c ∧ v.plan.exchange = s.plan.exchange ∧
            ctxRec v c = { r with
              asked := false, confirmCount := 0, steps := r.steps.set r.index { x with state := .done } } ∧
            ctxRec v (otherCtx c) = ctxRec s (otherCtx c) ∧ v.plan.autoPending = false ∧
            v.plan.autoEffective = (s.plan.autoEffective || s.plan.autoPending) ∧
            ∀ k, tankRec v k = if k ∈ p.entries.map PlanEntry.tank then { tankRec s k with service := none }
              else tankRec s k) ∧
        (admits p → false ∈ x.done → x.done.length = p.entries.length → (p.entries.map PlanEntry.tank).Nodup →
          (∀ e ∈ p.entries, e.tank < 64) → s.pump.queue.length + p.entries.length ≤ 16 →
          ∃ u, exec .stepCompletion s = .next (withProgress (fun _ => u) base) ∧
            OnlyChanges [.plan, .tank, .pump, .line] base u ∧
            stepState (ctxRec u c) r.index = some .running ∧ (ctxRec u c).confirmCount = 0 ∧
            (ctxRec u c).asked = false ∧ (ctxRec u c).state = .active ∧
            ctxRec u (otherCtx c) = ctxRec s (otherCtx c) ∧
            (s.plan.autoPending = true → u.plan.autoPending = false ∧ u.plan.autoEffective = true) ∧
            (∀ e ∈ p.entries, (tankRec u e.tank).service = some ⟨e.action, e.target⟩) ∧
            ∀ (j : Nat) (e : PlanEntry), p.entries[j]? = some e → x.done[j]? = some false →
              (∃ y ∈ u.pump.queue, y.tank = e.tank) ∨ (tankRec u e.tank).serving ≠ none)

/-- The completion of a CURRENT evaluation, in whatever order it is handed on: the Condition Record is replaced whole,
its trim becomes the conversion trim, an OVER record stops every POURING hold and no other and a CLEAR or WARNING one resumes
every hold below its allowance, READY begins when the full sweep of ANNOUNCE was complete, and the summary line follows (R48
to R50, R77, R80, R185, R189). A LOADER report is queued for each hold whose request changed or is taken up, and for no other
(R48 to R51; its cycle number is log entry 33); in RUN the ALERTs of the completion are queued, and outside it none (R148);
the Plan Unit takes the completion, and after one OVER or INDEFINITE no step is RUNNING (R118, R139). -/
def Obligations.CurrentCompletes : Prop :=
  ∀ (s : State) (order : List HandOn) (run : Running), s.start.inReset = none → s.hull.engine = some run →
    run.kind = .current →
    let res := evaluate s.tables run.number run.snap
    ∃ t, exec (.currentCompletion order) s = .next t ∧
      OnlyChanges [.tank, .hold, .hull, .pump, .plan, .report, .line, .fault, .start] s t ∧
      t.hull.engine = none ∧ t.hull.currentFlag = s.hull.currentFlag ∧ t.hull.counter = s.hull.counter ∧
      t.hull.condition = some ⟨res, run.snap.measured, mismatchFlag run.snap res, run.snap.settings.maxDraught⟩ ∧
      (mismatchFlag run.snap res = true ↔ ∃ m, run.snap.measured.mean = some m ∧ run.snap.tablesValid = true ∧
        (∀ i ∈ run.snap.items, i.cls ≠ .indefinite) ∧ run.snap.settings.mismatchTol < ((m : Int) - res.mean).natAbs) ∧
      t.tank.convTrim = res.trim ∧ Safety.SummaryOk t ∧ t.hold.takeUp = false ∧
      (∀ h < 12, holdRec t h = { holdRec s h with stopRequested := (holdRec t h).stopRequested }) ∧
      (res.overall = .over → ∀ h < 12, (holdRec t h).stopRequested =
        ((holdRec s h).stopRequested || decide ((holdRec s h).phase = .pouring))) ∧
      (res.overall = .clear ∨ res.overall = .warning → ∀ h < 12, (holdRec t h).stopRequested =
        ((holdRec s h).stopRequested && decide ((holdRec s h).allowance ≤ (holdRec s h).mass))) ∧
      (res.overall = .indefinite → ∀ h < 12, (holdRec t h).stopRequested = (holdRec s h).stopRequested) ∧
      (let new : CondRecord := ⟨res, run.snap.measured, mismatchFlag run.snap res, run.snap.settings.maxDraught⟩
        let posted (h : Nat) := (holdRec t h).stopRequested ≠ (holdRec s h).stopRequested ∨
          (s.hold.takeUp = true ∧ (holdRec s h).stopRequested = true)
        let loader (h : Nat) : Report := .loader ⟨h, (holdRec t h).stopRequested, (holdRec s h).mass,
          (holdRec s h).allowance, res.overall, s.line.lastClosed⟩
        (s.report.queue.length < 12 → ∀ h < 12, posted h → Queued t (loader h)) ∧
        (∀ r, Queued t (.loader r) → Queued s (.loader r) ∨ (r.hold < 12 ∧ posted r.hold ∧ .loader r = loader r.hold)) ∧
        (s.start.phase ≠ .run → ∀ a, Queued t (.alert a) → Queued s (.alert a)) ∧
        (s.start.phase = .run → s.report.queue = [] → (alertsOf (conditionResult s) new).length ≤ 8 →
          ∀ a ∈ alertsOf (conditionResult s) new, Queued t (.alert a)) ∧
        let u := planHandOn { s with hull := { s.hull with engine := none, condition := some new } }
        t.plan = u.plan ∧ t.pump = u.pump ∧ t.line = u.line ∧ t.hull = u.hull ∧ t.tank.recs = u.tank.recs) ∧
      (Safety.DesignationOk s → (res.overall = .over ∨ res.overall = .indefinite) →
        ∀ (c : Ctx) (k : Nat), stepState (ctxRec t c) k ≠ some .running) ∧
      (t.start = if s.start.phase = .announce ∧ run.afterSweep = true then { s.start with phase := .ready } else s.start)

/-- Each station's shear force and bending moment, formed exactly, saturated at 8,388,607, and graded against the limit
for its sign in the chosen set: OVER exactly when it saturated or exceeds the limit, else INDEFINITE when an INDEFINITE
item reaches it, else WARNING above the warn per mille, else CLEAR. A result's stations are those of its base record and
its overall class the highest of its classes; with a hull table INVALID every value is 0 and every class INDEFINITE (R67
to R70, R76, R78). -/
def Obligations.StationsGraded : Prop :=
  (∀ (b : BaseRecord) (inf : List (List Coef)) (lim : LimitSets) (snap : Snapshot) (st : Nat),
    let r := stationResult b inf lim snap st
    let l := limitsAt lim snap.settings.limitSet st
    let graded (raw v : Int) (sat : Bool) (cls : CondClass) (pm : Nat) (pos neg : Nat) (coef : Nat → Int) : Prop :=
      let limit := if 0 ≤ v then pos else neg
      let unsure := ∃ (i : Nat) (it : ItemSnap), snap.items[i]? = some it ∧ it.cls = .indefinite ∧ coef i ≠ 0
      v = within (-8388607) 8388607 raw ∧ (sat = true ↔ raw < -8388607 ∨ 8388607 < raw) ∧
        (-8388607 ≤ v ∧ v ≤ 8388607) ∧
        (cls = .over ↔ sat = true ∨ limit < v.natAbs) ∧
        (cls = .indefinite ↔ ¬ (sat = true ∨ limit < v.natAbs) ∧ unsure) ∧
        (cls = .warning ↔ ¬ (sat = true ∨ limit < v.natAbs) ∧ ¬ unsure ∧
          limit * snap.settings.warn < v.natAbs * 1000) ∧
        pm = min (v.natAbs * 1000 / limit) 9999
    graded (b.sf0[st]?.getD 0 + roundDiv (itemSum snap.items (fun i _ => (coefOf inf i st).fS)) 65536) r.sf r.sfSat
        r.sfCls r.sfPm l.sfPos l.sfNeg (fun i => (coefOf inf i st).fS) ∧
      graded (b.bm0[st]?.getD 0 + roundDiv (itemSum snap.items (fun i _ => (coefOf inf i st).fM)) 10000) r.bm r.bmSat
        r.bmCls r.bmPm l.bmPos l.bmNeg (fun i => (coefOf inf i st).fM)) ∧
  ∀ (tab : Tables) (n : Nat) (snap : Snapshot),
    let e := evaluate tab n snap
    (∀ b inf lim hydro, snap.tablesValid = true → tab.base = some b → tab.influence = some inf →
      tab.limits = some lim → tab.hydro = some hydro →
      e.stations = (List.range b.nsta).map (stationResult b inf lim snap) ∧
        let classes := e.draughtCls :: e.trimCls :: e.stations.flatMap (fun x => [x.sfCls, x.bmCls])
        e.overall ∈ classes ∧ ∀ c ∈ classes, c.rank ≤ e.overall.rank) ∧
    ((snap.tablesValid = false ∨ tab.base = none ∨ tab.influence = none ∨ tab.limits = none ∨ tab.hydro = none) →
      e.stations = List.replicate ((tab.base.map BaseRecord.nsta).getD 24)
        ⟨0, false, 0, .indefinite, 0, false, 0, .indefinite⟩ ∧
      e.overall = .indefinite ∧ e.draughtCls = .indefinite ∧ e.trimCls = .indefinite ∧ e.delta = 0 ∧ e.mean = 0 ∧
      e.fore = 0 ∧ e.aft = 0 ∧ e.trim = 0)

/-- The displacement is the base displacement with every item's mass, saturated at 30,000,000 dt, which forces the
draught class to OVER, and never below the base displacement, which a base record holds at 1 or more (R71). The mean draught,
LCB and MTC are taken from the hydrostatic table, its first or last values outside its range and each quantity interpolated
with a truncated increment within it (R72). The fore draught is the mean less half the trim, truncated, and the aft draught
the fore and the trim; the draught class is OVER beyond the range or above the maximum draught, else INDEFINITE when some
item is, else WARNING within the margin, else CLEAR (R74). The trim class
is OVER when the trim was clamped or lies outside the window, else INDEFINITE when some item is INDEFINITE, else CLEAR, and
never WARNING, a trim at either bound lying inside (R75). -/
def Obligations.DisplacementDraughtsAndTrimGraded : Prop :=
  (∀ (b : BaseRecord) (inf : List (List Coef)) (lim : LimitSets) (hydro : List HydroPoint) (n : Nat) (snap : Snapshot),
    let r := stagesResult b inf lim hydro n snap
    let sum := b.delta0 + ((snap.items.map ItemSnap.mass).sum : Nat)
    let h := hydroAt hydro r.delta
    let raw := rawTrim r.delta h.2.1 h.2.2 (b.tm0 + itemSum snap.items (fun _ i => i.lever))
    let outside := raw < -20000 ∨ 20000 < raw ∨ r.trim < snap.settings.trimMin ∨ snap.settings.trimMax < r.trim
    let unsure := ∃ i ∈ snap.items, i.cls = .indefinite
    let beyond := 30000000 < sum ∨ hydro = [] ∨ ∃ p, hydro.getLast? = some p ∧ p.delta < r.delta
    let most := snap.settings.maxDraught
    let tooDeep := beyond ∨ most < r.fore ∨ most < r.aft ∨ most < r.mean
    let near := most - snap.settings.margin ≤ r.fore ∨ most - snap.settings.margin ≤ r.aft ∨
      most - snap.settings.margin ≤ r.mean
    (r.delta = min sum 30000000 ∧ (30000000 < sum → r.draughtCls = .over) ∧
      (b.delta0 ≤ 30000000 → b.delta0 ≤ r.delta)) ∧
    (r.mean = h.1 ∧ r.fore = r.mean - Int.tdiv r.trim 2 ∧ r.aft = r.fore + r.trim ∧ (tooDeep → r.draughtCls = .over) ∧
      (¬ tooDeep → unsure → r.draughtCls = .indefinite) ∧
      (¬ tooDeep → ¬ unsure → near → r.draughtCls = .warning) ∧ (¬ tooDeep → ¬ unsure → ¬ near → r.draughtCls = .clear)) ∧
    r.trim = within (-20000) 20000 raw ∧ (outside → r.trimCls = .over) ∧
      (¬ outside → unsure → r.trimCls = .indefinite) ∧ (¬ outside → ¬ unsure → r.trimCls = .clear) ∧
      r.trimCls ≠ .warning) ∧
  (∀ (table : List HydroPoint) (d : Int), table.Pairwise (fun p q => p.delta < q.delta) →
    (∀ p rest, table = p :: rest → d < p.delta → hydroAt table d = (p.mean, p.lcb, p.mtc)) ∧
    (∀ before p q after, table = before ++ p :: q :: after → p.delta ≤ d → d < q.delta →
      let at' (a b : Int) := a + Int.tdiv ((d - p.delta) * (b - a)) (q.delta - p.delta)
      hydroAt table d = (at' p.mean q.mean, at' p.lcb q.lcb, at' p.mtc q.mtc)) ∧
    ∀ before p, table = before ++ [p] → p.delta ≤ d → hydroAt table d = (p.mean, p.lcb, p.mtc)) ∧
  ∀ bytes b, readBase bytes = some b → 1 ≤ b.delta0 ∧ b.delta0 ≤ 30000000

/-- The mass of a volume is the volume times the density divided by 1,000, rounded up at half, so at most 2,000,000 dt;
a conversion takes it from the volume it writes, and a change of density from the volume already held (R26). -/
def Obligations.MassFromVolume : Prop :=
  (∀ v d : Nat, 2000 * massOf v d ≤ 2 * (v * d) + 1000 ∧ 2 * (v * d) + 1000 < 2000 * (massOf v d + 1) ∧
    (v ≤ 1000000 → d ≤ 2000 → massOf v d ≤ 2000000)) ∧
  (∀ (s : State) (k : Nat) (f : TankFix) (c : Conversion) (r : TankRec),
    (convertedRec s k f c r).mass = massOf (convertedRec s k f c r).volume c.density) ∧
  ∀ (s : State) (k d : Nat), k < 64 →
    (tankRec (reconvertDensity k d s) k).volume = (tankRec s k).volume ∧
      (tankRec (reconvertDensity k d s) k).mass = massOf (tankRec s k).volume d

/-! ## Reports, faults and the transmitter -/

/-- A posted report is merged in place into the entry of its kind and subject, an ALERT keeping its old class and its peak
and withdrawn when nothing is left of the change; else it joins the tail; with 24 entries it displaces the oldest of the
lowest priority when that is lower than its own, and is dropped otherwise (R145, R149). -/
def Obligations.ReportsPlaced : Prop :=
  ∀ (r : Report) (q : List ReportEntry),
    let fresh (m : Report) : ReportEntry := ⟨m, true, freshRemaining m⟩
    (∀ before e after, q = before ++ e :: after → e.key = reportKey r → (∀ x ∈ before, x.key ≠ reportKey r) →
      let merged : Report := match e.report, r with
        | .alert o, .alert n => .alert { n with old := o.old, peak := if o.peak.rank < n.new.rank then n.new else o.peak }
        | _, n => n
      let gone := ∃ a, merged = .alert a ∧ a.old = a.new ∧ a.new = a.peak
      (gone → postQueue r q = ⟨before ++ after, .merged, none⟩) ∧
      (¬ gone → postQueue r q = ⟨before ++ fresh merged :: after, .merged, none⟩)) ∧
    ((∀ x ∈ q, x.key ≠ reportKey r) → q.length < 24 → postQueue r q = ⟨q ++ [fresh r], .queued, none⟩) ∧
    (∀ before e after, (∀ x ∈ q, x.key ≠ reportKey r) → 24 ≤ q.length → q = before ++ e :: after →
      (∀ x ∈ before, x.key.cls < e.key.cls) → (∀ x ∈ after, x.key.cls ≤ e.key.cls) → (reportKey r).cls < e.key.cls →
      postQueue r q = ⟨before ++ after ++ [fresh r], .queued, some e.key⟩) ∧
    ((∀ x ∈ q, x.key ≠ reportKey r) → 24 ≤ q.length → (∀ x ∈ q, x.key.cls ≤ (reportKey r).cls) →
      postQueue r q = ⟨q, .dropped, none⟩)

/-- The reports as they are built. The ALERTs of a completion: one for each station, the draught, the trim and the overall
class whose class changed, with the values and per mille of the new record, in increasing order of subject (R148). A CONDITION
report: the Condition Record as it stands, with the highest SF and BM per mille of each window and the lowest station that
has it, absent where no station of the window is listed; a record none yet reads INDEFINITE and 0 (R151, R152). A PROGRESS
report: the context, its current step with its tank entries, and the shortfalls still to move, of the entries not done of a
current step to run and of every entry of a later WAITING step (R154). The limit set of a record none yet is log
entry 60, and the cycle number of a PROGRESS report log entry 33. -/
def Obligations.ReportsBuilt : Prop :=
  (∀ (old : EvalResult) (new : CondRecord), new.res.stations.length ≤ 24 →
    let n := new.res
    let deepest := max (max n.fore n.aft) n.mean
    let per : Nat := if deepest ≤ 0 then 0
      else if new.maxDraught = 0 then 9999 else min (Int.tdiv (deepest * 1000) new.maxDraught).toNat 9999
    let worse (a b : CondClass) := if a.rank < b.rank then b else a
    ((alertsOf old new).map AlertReport.subject).Pairwise (· < ·) ∧
    ∀ a, a ∈ alertsOf old new ↔
      (∃ r, n.stations[a.subject]? = some r ∧ changedAlert a.subject
        ((old.stations[a.subject]?).elim .indefinite (fun q => worse q.sfCls q.bmCls)) (worse r.sfCls r.bmCls) n.number
        (some r.sf) (some r.bm) (some r.sfPm) (some r.bmPm) a) ∨
      changedAlert 24 old.draughtCls n.draughtCls n.number (some deepest) none (some per) none a ∨
      changedAlert 25 old.trimCls n.trimCls n.number (some n.trim) none none none a ∨
      changedAlert 26 old.overall n.overall n.number none none none none a) ∧
  (∀ (pm : StationRes → Nat) (l : List StationRes) (w : Window),
    let among (j : Nat) (r : StationRes) := l[j]? = some r ∧ w.first ≤ j ∧ j < w.first + w.count
    (windowMax pm l w = none ↔ ∀ j r, ¬ among j r) ∧
    ∀ m j, windowMax pm l w = some (m, j) ↔ ∃ r, among j r ∧ pm r = m ∧
      ∀ i q, among i q → pm q ≤ m ∧ (pm q = m → j ≤ i)) ∧
  (∀ s : State,
    let maxima (r : EvalResult) := (s.settings.windows.getD [⟨0, r.stations.length⟩]).map (fun w =>
      (⟨windowMax StationRes.sfPm r.stations w, windowMax StationRes.bmPm r.stations w⟩ : WindowMaxima))
    (∀ x, s.hull.condition = some x → conditionReport s = ⟨true, x.res, x.measured, x.mismatch, maxima x.res⟩) ∧
    (s.hull.condition = none → conditionReport s =
      ⟨false, ⟨0, 0, .harbour, 0, 0, 0, 0, 0, [], .indefinite, .indefinite, .indefinite, false, none⟩,
        ⟨none, none, none, none, none⟩, false, maxima noResult⟩)) ∧
  ∀ (s : State) (c : Ctx),
    let r := ctxRec s c
    let t := progressReport s c
    let short (e : PlanEntry) : Nat := match e.action with
      | .discharge => (tankRec s e.tank).mass - e.target
      | .fill => e.target - (tankRec s e.tank).mass
    t.ctx = c ∧ t.state = r.state ∧ t.designated = decide (s.plan.designated = c) ∧ t.resumable = r.resumable ∧
    t.final = decide (r.state = .complete) ∧ t.cycle = s.line.lastClosed ∧
    t.exchange = (s.plan.exchange.bind (fun x => if x.outgoing = c then some ⟨x.cause, x.served.length⟩ else none)) ∧
    (r.plan = none → t.plan = none ∧ t.entries = [] ∧ t.remaining = 0) ∧
    (r.state = .complete ∨ r.state = .empty → t.remaining = 0) ∧
    ∀ p ps x, r.plan = some p → p.steps[r.index]? = some ps → r.steps[r.index]? = some x →
      ps.entries.length = x.done.length →
      t.plan = some ⟨p.steps.length, r.index, x.state⟩ ∧ t.entries.length = ps.entries.length ∧
      (∀ (j : Nat) (e : PlanEntry) (d : Bool), ps.entries[j]? = some e → x.done[j]? = some d →
        let q := tankRec s e.tank
        t.entries[j]? = some ⟨e.tank, e.action, e.target, q.mass, q.cls, q.rate, d, q.serving⟩) ∧
      (r.state ≠ .complete → r.state ≠ .empty → r.steps.length = p.steps.length →
        t.remaining =
          (if x.state = .done ∨ x.state = .skipped then 0
            else (((ps.entries.zip x.done).filter (fun e => !e.2)).map (fun e => short e.1)).sum) +
          (((p.steps.zip r.steps).drop (r.index + 1)).map (fun y =>
            if y.2.state = .waiting then (y.1.entries.map short).sum else 0)).sum)

/-- The Fault Unit's taking of a message: a new condition joins with the last closed cycle, an ACTIVE one stays, a GONE
one returns with its first cycle kept; at 32 entries it displaces the oldest of the lowest priority when that is lower,
and sets the list-full flag otherwise; an ended temporary condition becomes GONE and a latched one stays, but for what
clears it (R181, R182). At each such change the FAULT report of the entry is posted, with its code, subject and first cycle,
and its state as it now is, and the report owed flag is set exactly when the post is dropped; a post that displaces a FAULT
report sets the flag of that report's entry (R145, R150, R183). The cycle number of a FAULT report is log entry 33. -/
def Obligations.FaultMessagesTaken : Prop :=
  ∀ (s : State) (code : FaultCode) (x : Nat), Safety.FaultListOk s →
    let same (e : FaultEntry) : Prop := e.code = code ∧ e.subject = x
    let t := tellActive code x s
    let joined (owed : Bool) : FaultEntry := ⟨code, x, s.line.lastClosed, true, false, owed⟩
    let posted (first : Nat) (active : Bool) : PostResult :=
      postQueue (.fault ⟨code, x, first, active, s.line.lastClosed⟩) s.report.queue
    let owes (first : Nat) (active : Bool) : Bool := decide ((posted first active).outcome = .dropped)
    let tells (first : Nat) (active : Bool) (l : List FaultEntry) (u : State) : Prop :=
      u.fault.list = l ∧ u.fault.listFull = s.fault.listFull ∧ Safety.SummaryOk u ∧
        u.report = { s.report with queue := (posted first active).queue }
    (OnlyChanges [.report, .fault] s t ∧ OnlyChanges [.report, .fault] s (tellEnded code x s)) ∧
    (∀ e ∈ s.fault.list, same e → e.active = true → t = s) ∧
    (∀ before e after, s.fault.list = before ++ e :: after → same e → e.active = false →
      tells e.firstCycle true
        (before ++ { e with active := true, reported := false, owed := owes e.firstCycle true } :: after) t) ∧
    ((∀ e ∈ s.fault.list, ¬ same e) → s.fault.list.length < 32 →
      tells s.line.lastClosed true (s.fault.list ++ [joined (owes s.line.lastClosed true)]) t) ∧
    (∀ before e after, (∀ y ∈ s.fault.list, ¬ same y) → s.fault.list.length = 32 →
      s.fault.list = before ++ e :: after → (∀ y ∈ before, y.code.priority < e.code.priority) →
      (∀ y ∈ after, y.code.priority ≤ e.code.priority) → code.priority < e.code.priority →
      tells s.line.lastClosed true (before ++ after ++ [joined (owes s.line.lastClosed true)]) t) ∧
    ((∀ y ∈ s.fault.list, ¬ same y) → s.fault.list.length = 32 →
      (∀ y ∈ s.fault.list, y.code.priority ≤ code.priority) →
      t = { s with fault := { s.fault with listFull := true } }) ∧
    (∀ before e after, s.fault.list = before ++ e :: after → same e → e.active = true →
      let gone := before ++ { e with active := false, reported := false, owed := owes e.firstCycle false } :: after
      (code.temporary = true → tells e.firstCycle false gone (tellEnded code x s)) ∧
        tells e.firstCycle false gone (makeGone code x s)) ∧
    ((code.temporary = false ∨ ∀ e ∈ s.fault.list, same e → e.active = false) → tellEnded code x s = s) ∧
    ((∀ e ∈ s.fault.list, same e → e.active = false) → makeGone code x s = s) ∧
    (∀ r, (postQueue r s.report.queue).displaced = some (.fault code x) → (post r s).fault = { s.fault with
      list := s.fault.list.map (fun e => if e.code = code ∧ e.subject = x then { e with owed := true } else e) }) ∧
    ∀ r, (∀ c y, (postQueue r s.report.queue).displaced ≠ some (.fault c y)) → (post r s).fault = s.fault

/-- The transmitter sends the earliest READY reply, else the oldest eligible report of the lowest class number with its
decreased count, else the oldest relayed sample, else an IDLE frame; nothing while a frame is being sent or after the
reply to RESET (R146, R147, R157, R173, R174, R178). The end of a transmission frees the transmitter and tells the frame's
owner: a FAULT report sent in its entry's state marks the entry reported, or takes a GONE entry off the list; the last IDENT
clears the reset cause record; the end of the reply to RESET makes the reset due, which another event performs (R146, R178,
R183, R187; log entry 30). -/
def Obligations.TransmitterServed : Prop :=
  (∀ s : State, s.start.inReset = none → Safety.ReportQueueOk s →
    let sending (f : TxFrame) : Option Sending := some ⟨f, txBytes f⟩
    let noReply := ∀ p ∈ s.console.places, ∀ code body, p.state ≠ .ready code body
    let noReport := ∀ e ∈ s.report.queue, e.eligible = false
    ((s.console.tx ≠ none ∨ s.console.resetDue = true) → exec .transmitterFree s = .next s) ∧
    (s.console.tx = none → s.console.resetDue = false →
      (∀ before p after code body, s.console.places = before ++ p :: after → p.state = .ready code body →
        (∀ q ∈ before, ∀ c d, q.state ≠ .ready c d) →
        exec .transmitterFree s = .next { s with console := { s.console with
          tx := sending (.reply p.tag p.order code body), places := before ++ after } }) ∧
      (∀ before e after, noReply → s.report.queue = before ++ e :: after → e.eligible = true →
        (∀ x ∈ before, x.eligible = true → e.key.cls < x.key.cls) →
        (∀ x ∈ after, x.eligible = true → e.key.cls ≤ x.key.cls) →
        exec .transmitterFree s = .next { s with
          report := { s.report with queue := before ++ after ++
            if 1 < e.remaining then [⟨e.report, false, e.remaining - 1⟩] else [] }
          console := { s.console with tx := sending (.report e.report (e.remaining - 1)) } }) ∧
      (∀ f rest, noReply → noReport → s.console.relay = f :: rest →
        exec .transmitterFree s = .next { s with console := { s.console with
          tx := sending (.sample f), relay := rest } }) ∧
      (noReply → noReport → s.console.relay = [] →
        exec .transmitterFree s = .next { s with console := { s.console with
          tx := sending (.idle s.line.lastClosed (overallClass s) s.fault.summary) } }))) ∧
  ∀ (s : State) (x : Sending), s.start.inReset = none → s.console.tx = some x →
    let free : State := { s with console := { s.console with tx := none } }
    (∀ r n before e after, x.frame = .report (.fault r) n → s.fault.list = before ++ e :: after →
      e.code = r.code → e.subject = r.subject → Safety.FaultListOk s →
      (e.active ≠ r.active → exec .transmissionComplete s = .next free) ∧
      (e.active = true → r.active = true → exec .transmissionComplete s = .next
        { free with fault := { s.fault with list := before ++ { e with reported := true } :: after } }) ∧
      (e.active = false → r.active = false → ∃ t, exec .transmissionComplete s = .next t ∧
        OnlyChanges [.fault, .console] s t ∧ t.fault.list = before ++ after ∧ t.fault.listFull = false ∧
        t.console = free.console ∧ Safety.SummaryOk t)) ∧
    (∀ r, x.frame = .report (.ident r) 0 → exec .transmissionComplete s = .next
      { free with start := { s.start with supplySeen := false, orderedSeen := false } }) ∧
    (∀ tag body, x.frame = .reply tag 19 .accepted body → s.console.resetPending = true →
      exec .transmissionComplete s = .next
        { free with console := { free.console with resetDue := true } }) ∧
    ((∀ r n, x.frame ≠ .report (.fault r) n) → (∀ r, x.frame ≠ .report (.ident r) 0) →
      (∀ tag body, x.frame ≠ .reply tag 19 .accepted body) → exec .transmissionComplete s = .next free)

/-! ## Supply, resets and the start -/

/-- The supply and the resets: SUPPLY-LOW follows VSUP; a SUPPLY and an ORDERED reset keep the retained area and record
their cause; the loss of the retained area makes a SUPPLY reset a POWER-ON reset, which clears all of it; and a reset's
end judges the supply at once (R100, R127, R141, R186, R187). The tables in use kept through a reset are log entry 4, a
waiting density brought into force at it log entry 10, and POWER_ON_RESET taken in any state log entry 31. The pump records at a reset hold a starter feedback absent,
which is the model's choice (log entry 36). -/
def Obligations.SupplyAndResetsTaken : Prop :=
  ∀ s : State,
    (s.start.inReset = none → s.start.vsupLow = false → exec .supplyLowBegin s = .next (tellActive .supplyLow 0
      { s with start := { s.start with vsupLow := true }, pump := { s.pump with supplyLow := true } })) ∧
    (s.start.inReset = none → s.start.vsupLow = true → exec .supplyLowEnd s = .next (tellEnded .supplyLow 0
      { s with start := { s.start with vsupLow := false }, pump := { s.pump with supplyLow := false } })) ∧
    (s.start.inReset = none → ∀ progress, ∃ t, exec (.supplyReset progress) s = .next t ∧ Restarted t ∧
      Retained s t ∧ t.fault = FaultState.reset ∧ t.report = ReportState.reset ∧ t.tables = s.tables ∧ t.pending = s.pending ∧
      t.start.inReset = some .supply ∧ t.start.supplySeen = true ∧ t.start.orderedSeen = s.start.orderedSeen) ∧
    (s.start.inReset = none → s.console.resetDue = true → ∃ t, exec .orderedReset s = .next t ∧ Restarted t ∧
      Retained s t ∧ t.tables = s.tables ∧ t.pending = s.pending ∧ t.start.inReset = none ∧
      t.start.orderedSeen = true ∧ t.start.supplySeen = s.start.supplySeen ∧
      (s.start.vsupLow = false → t.fault = FaultState.reset ∧ t.report = ReportState.reset ∧ t.pump.supplyLow = false) ∧
      (s.start.vsupLow = true → Listed t .supplyLow 0 ∧ t.pump.supplyLow = true)) ∧
    (s.start.inReset = some .supply → exec .retentionLoss s = .next { State.reset with
      tables := s.tables
      store := s.store
      start := { StartState.reset with inReset := some .powerOn, vsupLow := s.start.vsupLow }
      pending := s.pending }) ∧
    (∀ progress, ∃ t, exec (.powerOnReset progress) s = .next t ∧ Restarted t ∧ t.hold = HoldState.reset ∧
      t.tank = TankState.reset ∧ t.plan = PlanState.reset ∧ t.fault = FaultState.reset ∧ t.report = ReportState.reset ∧
      t.tables = s.tables ∧ t.pending = s.pending ∧ t.start.inReset = some .powerOn ∧ t.start.supplySeen = false ∧
      t.start.orderedSeen = false) ∧
    (s.start.inReset ≠ none → exec (.resetEnd false) s = .next
      { s with start := { s.start with inReset := none, vsupLow := false } }) ∧
    (s.start.inReset ≠ none → exec (.resetEnd true) s = .next (tellActive .supplyLow 0
      { s with start := { s.start with inReset := none, vsupLow := true }, pump := { s.pump with supplyLow := true } }))

/-- The end of a SELF-CHECK grades every table as the store holds it, brings ENUMERATE, takes every tank anew with its
mis-bound mark, resets every channel record while the Channel Table is INVALID, and tells TABLE-INVALID of each table found
INVALID and its end for one found valid (R3, R4, R21, R36, R162, R188). That a mis-bound tank keeps TABLE-INVALID of code 3
alone active is log entry 44, and that a waiting density comes into force here log entry 10. -/
def Obligations.SelfCheckEnds : Prop :=
  ∀ (s : State) (misreads : List Nat), s.start.inReset = none → s.start.phase = .selfCheck →
    Safety.FaultListOk s →
    ∃ t, exec (.selfCheckEnd misreads) s = .next t ∧
      OnlyChanges [.tables, .chan, .tank, .plan, .report, .line, .fault, .start] s t ∧
      t.chan = (if t.tables.channel = none then ChannelState.reset else s.chan) ∧
      t.tables = gradeTables s.store misreads ∧ t.start = { s.start with phase := .enumerate, restart := false } ∧
      t.line = { s.line with enumeration := .unassignDue, assign := .none } ∧
      (s.plan.recheckOwed = false → t.plan = s.plan) ∧
      (∀ k < 64, (tankRec t k).volume = 0 ∧ (tankRec t k).mass = 0 ∧ (tankRec t k).rate = none ∧
        (tankRec t k).conv = none ∧ (tankRec t k).misBound = misBoundNow t.tables k ∧
        density t k = (tankRec s k).newDensity.getD (density s k) ∧
        (tankRec t k).cls = if tankInUse t k then .indefinite else .good) ∧
      ∀ code < 10,
        let bad := tableValid t.tables code = false ∨ (code = 3 ∧ ∃ k < 64, misBoundNow t.tables k = true)
        (bad → s.fault.list.length ≤ 10 → Listed t .tableInvalid code) ∧
        (¬ bad → ∀ e ∈ t.fault.list, e.code = .tableInvalid → e.subject = code → e.active = false)
end

