-- ==== Sys2Proof/Laws/State.lean ====
section
/-! SUPPORT. The small lemmas of the record writes of Machine/Ops.lean: for each write, one lemma for each block of the
state that it leaves alone, and what reading a record gives after a record has been written. -/

namespace Sys2Proof.Machine

open Sys2Proof

variable (s : State)

/-! ### setChan -/

@[simp] theorem setChan_settings (c : Nat) (r : ChannelRec) : (setChan c r s).settings = s.settings := rfl
@[simp] theorem setChan_tables (c : Nat) (r : ChannelRec) : (setChan c r s).tables = s.tables := rfl
@[simp] theorem setChan_store (c : Nat) (r : ChannelRec) : (setChan c r s).store = s.store := rfl
@[simp] theorem setChan_tank (c : Nat) (r : ChannelRec) : (setChan c r s).tank = s.tank := rfl
@[simp] theorem setChan_hold (c : Nat) (r : ChannelRec) : (setChan c r s).hold = s.hold := rfl
@[simp] theorem setChan_hull (c : Nat) (r : ChannelRec) : (setChan c r s).hull = s.hull := rfl
@[simp] theorem setChan_pump (c : Nat) (r : ChannelRec) : (setChan c r s).pump = s.pump := rfl
@[simp] theorem setChan_plan (c : Nat) (r : ChannelRec) : (setChan c r s).plan = s.plan := rfl
@[simp] theorem setChan_report (c : Nat) (r : ChannelRec) : (setChan c r s).report = s.report := rfl
@[simp] theorem setChan_line (c : Nat) (r : ChannelRec) : (setChan c r s).line = s.line := rfl
@[simp] theorem setChan_console (c : Nat) (r : ChannelRec) : (setChan c r s).console = s.console := rfl
@[simp] theorem setChan_fault (c : Nat) (r : ChannelRec) : (setChan c r s).fault = s.fault := rfl
@[simp] theorem setChan_start (c : Nat) (r : ChannelRec) : (setChan c r s).start = s.start := rfl
@[simp] theorem setChan_close (c : Nat) (r : ChannelRec) : (setChan c r s).close = s.close := rfl
@[simp] theorem setChan_pending (c : Nat) (r : ChannelRec) : (setChan c r s).pending = s.pending := rfl

/-! ### setTank -/

@[simp] theorem setTank_settings (t : Nat) (r : TankRec) : (setTank t r s).settings = s.settings := rfl
@[simp] theorem setTank_tables (t : Nat) (r : TankRec) : (setTank t r s).tables = s.tables := rfl
@[simp] theorem setTank_store (t : Nat) (r : TankRec) : (setTank t r s).store = s.store := rfl
@[simp] theorem setTank_chan (t : Nat) (r : TankRec) : (setTank t r s).chan = s.chan := rfl
@[simp] theorem setTank_hold (t : Nat) (r : TankRec) : (setTank t r s).hold = s.hold := rfl
@[simp] theorem setTank_hull (t : Nat) (r : TankRec) : (setTank t r s).hull = s.hull := rfl
@[simp] theorem setTank_pump (t : Nat) (r : TankRec) : (setTank t r s).pump = s.pump := rfl
@[simp] theorem setTank_plan (t : Nat) (r : TankRec) : (setTank t r s).plan = s.plan := rfl
@[simp] theorem setTank_report (t : Nat) (r : TankRec) : (setTank t r s).report = s.report := rfl
@[simp] theorem setTank_line (t : Nat) (r : TankRec) : (setTank t r s).line = s.line := rfl
@[simp] theorem setTank_console (t : Nat) (r : TankRec) : (setTank t r s).console = s.console := rfl
@[simp] theorem setTank_fault (t : Nat) (r : TankRec) : (setTank t r s).fault = s.fault := rfl
@[simp] theorem setTank_start (t : Nat) (r : TankRec) : (setTank t r s).start = s.start := rfl
@[simp] theorem setTank_close (t : Nat) (r : TankRec) : (setTank t r s).close = s.close := rfl
@[simp] theorem setTank_pending (t : Nat) (r : TankRec) : (setTank t r s).pending = s.pending := rfl

/-! ### setDensity -/

@[simp] theorem setDensity_settings (t d : Nat) : (setDensity t d s).settings = s.settings := rfl
@[simp] theorem setDensity_tables (t d : Nat) : (setDensity t d s).tables = s.tables := rfl
@[simp] theorem setDensity_store (t d : Nat) : (setDensity t d s).store = s.store := rfl
@[simp] theorem setDensity_chan (t d : Nat) : (setDensity t d s).chan = s.chan := rfl
@[simp] theorem setDensity_hold (t d : Nat) : (setDensity t d s).hold = s.hold := rfl
@[simp] theorem setDensity_hull (t d : Nat) : (setDensity t d s).hull = s.hull := rfl
@[simp] theorem setDensity_pump (t d : Nat) : (setDensity t d s).pump = s.pump := rfl
@[simp] theorem setDensity_plan (t d : Nat) : (setDensity t d s).plan = s.plan := rfl
@[simp] theorem setDensity_report (t d : Nat) : (setDensity t d s).report = s.report := rfl
@[simp] theorem setDensity_line (t d : Nat) : (setDensity t d s).line = s.line := rfl
@[simp] theorem setDensity_console (t d : Nat) : (setDensity t d s).console = s.console := rfl
@[simp] theorem setDensity_fault (t d : Nat) : (setDensity t d s).fault = s.fault := rfl
@[simp] theorem setDensity_start (t d : Nat) : (setDensity t d s).start = s.start := rfl
@[simp] theorem setDensity_close (t d : Nat) : (setDensity t d s).close = s.close := rfl
@[simp] theorem setDensity_pending (t d : Nat) : (setDensity t d s).pending = s.pending := rfl

/-! ### setHold -/

@[simp] theorem setHold_settings (h : Nat) (r : HoldRec) : (setHold h r s).settings = s.settings := rfl
@[simp] theorem setHold_tables (h : Nat) (r : HoldRec) : (setHold h r s).tables = s.tables := rfl
@[simp] theorem setHold_store (h : Nat) (r : HoldRec) : (setHold h r s).store = s.store := rfl
@[simp] theorem setHold_chan (h : Nat) (r : HoldRec) : (setHold h r s).chan = s.chan := rfl
@[simp] theorem setHold_tank (h : Nat) (r : HoldRec) : (setHold h r s).tank = s.tank := rfl
@[simp] theorem setHold_hull (h : Nat) (r : HoldRec) : (setHold h r s).hull = s.hull := rfl
@[simp] theorem setHold_pump (h : Nat) (r : HoldRec) : (setHold h r s).pump = s.pump := rfl
@[simp] theorem setHold_plan (h : Nat) (r : HoldRec) : (setHold h r s).plan = s.plan := rfl
@[simp] theorem setHold_report (h : Nat) (r : HoldRec) : (setHold h r s).report = s.report := rfl
@[simp] theorem setHold_line (h : Nat) (r : HoldRec) : (setHold h r s).line = s.line := rfl
@[simp] theorem setHold_console (h : Nat) (r : HoldRec) : (setHold h r s).console = s.console := rfl
@[simp] theorem setHold_fault (h : Nat) (r : HoldRec) : (setHold h r s).fault = s.fault := rfl
@[simp] theorem setHold_start (h : Nat) (r : HoldRec) : (setHold h r s).start = s.start := rfl
@[simp] theorem setHold_close (h : Nat) (r : HoldRec) : (setHold h r s).close = s.close := rfl
@[simp] theorem setHold_pending (h : Nat) (r : HoldRec) : (setHold h r s).pending = s.pending := rfl

/-! ### setPump -/

@[simp] theorem setPump_settings (p : Nat) (r : PumpRec) : (setPump p r s).settings = s.settings := rfl
@[simp] theorem setPump_tables (p : Nat) (r : PumpRec) : (setPump p r s).tables = s.tables := rfl
@[simp] theorem setPump_store (p : Nat) (r : PumpRec) : (setPump p r s).store = s.store := rfl
@[simp] theorem setPump_chan (p : Nat) (r : PumpRec) : (setPump p r s).chan = s.chan := rfl
@[simp] theorem setPump_tank (p : Nat) (r : PumpRec) : (setPump p r s).tank = s.tank := rfl
@[simp] theorem setPump_hold (p : Nat) (r : PumpRec) : (setPump p r s).hold = s.hold := rfl
@[simp] theorem setPump_hull (p : Nat) (r : PumpRec) : (setPump p r s).hull = s.hull := rfl
@[simp] theorem setPump_plan (p : Nat) (r : PumpRec) : (setPump p r s).plan = s.plan := rfl
@[simp] theorem setPump_report (p : Nat) (r : PumpRec) : (setPump p r s).report = s.report := rfl
@[simp] theorem setPump_line (p : Nat) (r : PumpRec) : (setPump p r s).line = s.line := rfl
@[simp] theorem setPump_console (p : Nat) (r : PumpRec) : (setPump p r s).console = s.console := rfl
@[simp] theorem setPump_fault (p : Nat) (r : PumpRec) : (setPump p r s).fault = s.fault := rfl
@[simp] theorem setPump_start (p : Nat) (r : PumpRec) : (setPump p r s).start = s.start := rfl
@[simp] theorem setPump_close (p : Nat) (r : PumpRec) : (setPump p r s).close = s.close := rfl
@[simp] theorem setPump_pending (p : Nat) (r : PumpRec) : (setPump p r s).pending = s.pending := rfl

/-! ### setNode -/

@[simp] theorem setNode_settings (a : Nat) (r : NodeRec) : (setNode a r s).settings = s.settings := by unfold setNode; split <;> rfl
@[simp] theorem setNode_tables (a : Nat) (r : NodeRec) : (setNode a r s).tables = s.tables := by unfold setNode; split <;> rfl
@[simp] theorem setNode_store (a : Nat) (r : NodeRec) : (setNode a r s).store = s.store := by unfold setNode; split <;> rfl
@[simp] theorem setNode_chan (a : Nat) (r : NodeRec) : (setNode a r s).chan = s.chan := by unfold setNode; split <;> rfl
@[simp] theorem setNode_tank (a : Nat) (r : NodeRec) : (setNode a r s).tank = s.tank := by unfold setNode; split <;> rfl
@[simp] theorem setNode_hold (a : Nat) (r : NodeRec) : (setNode a r s).hold = s.hold := by unfold setNode; split <;> rfl
@[simp] theorem setNode_hull (a : Nat) (r : NodeRec) : (setNode a r s).hull = s.hull := by unfold setNode; split <;> rfl
@[simp] theorem setNode_pump (a : Nat) (r : NodeRec) : (setNode a r s).pump = s.pump := by unfold setNode; split <;> rfl
@[simp] theorem setNode_plan (a : Nat) (r : NodeRec) : (setNode a r s).plan = s.plan := by unfold setNode; split <;> rfl
@[simp] theorem setNode_report (a : Nat) (r : NodeRec) : (setNode a r s).report = s.report := by unfold setNode; split <;> rfl
@[simp] theorem setNode_console (a : Nat) (r : NodeRec) : (setNode a r s).console = s.console := by unfold setNode; split <;> rfl
@[simp] theorem setNode_fault (a : Nat) (r : NodeRec) : (setNode a r s).fault = s.fault := by unfold setNode; split <;> rfl
@[simp] theorem setNode_start (a : Nat) (r : NodeRec) : (setNode a r s).start = s.start := by unfold setNode; split <;> rfl
@[simp] theorem setNode_close (a : Nat) (r : NodeRec) : (setNode a r s).close = s.close := by unfold setNode; split <;> rfl
@[simp] theorem setNode_pending (a : Nat) (r : NodeRec) : (setNode a r s).pending = s.pending := by unfold setNode; split <;> rfl

/-! ### setCtx -/

@[simp] theorem setCtx_settings (c : Ctx) (r : CtxRec) : (setCtx c r s).settings = s.settings := by cases c <;> rfl
@[simp] theorem setCtx_tables (c : Ctx) (r : CtxRec) : (setCtx c r s).tables = s.tables := by cases c <;> rfl
@[simp] theorem setCtx_store (c : Ctx) (r : CtxRec) : (setCtx c r s).store = s.store := by cases c <;> rfl
@[simp] theorem setCtx_chan (c : Ctx) (r : CtxRec) : (setCtx c r s).chan = s.chan := by cases c <;> rfl
@[simp] theorem setCtx_tank (c : Ctx) (r : CtxRec) : (setCtx c r s).tank = s.tank := by cases c <;> rfl
@[simp] theorem setCtx_hold (c : Ctx) (r : CtxRec) : (setCtx c r s).hold = s.hold := by cases c <;> rfl
@[simp] theorem setCtx_hull (c : Ctx) (r : CtxRec) : (setCtx c r s).hull = s.hull := by cases c <;> rfl
@[simp] theorem setCtx_pump (c : Ctx) (r : CtxRec) : (setCtx c r s).pump = s.pump := by cases c <;> rfl
@[simp] theorem setCtx_report (c : Ctx) (r : CtxRec) : (setCtx c r s).report = s.report := by cases c <;> rfl
@[simp] theorem setCtx_line (c : Ctx) (r : CtxRec) : (setCtx c r s).line = s.line := by cases c <;> rfl
@[simp] theorem setCtx_console (c : Ctx) (r : CtxRec) : (setCtx c r s).console = s.console := by cases c <;> rfl
@[simp] theorem setCtx_fault (c : Ctx) (r : CtxRec) : (setCtx c r s).fault = s.fault := by cases c <;> rfl
@[simp] theorem setCtx_start (c : Ctx) (r : CtxRec) : (setCtx c r s).start = s.start := by cases c <;> rfl
@[simp] theorem setCtx_close (c : Ctx) (r : CtxRec) : (setCtx c r s).close = s.close := by cases c <;> rfl
@[simp] theorem setCtx_pending (c : Ctx) (r : CtxRec) : (setCtx c r s).pending = s.pending := by cases c <;> rfl

/-! ### judgeSummary -/

@[simp] theorem judgeSummary_settings : (judgeSummary s).settings = s.settings := rfl
@[simp] theorem judgeSummary_tables : (judgeSummary s).tables = s.tables := rfl
@[simp] theorem judgeSummary_store : (judgeSummary s).store = s.store := rfl
@[simp] theorem judgeSummary_chan : (judgeSummary s).chan = s.chan := rfl
@[simp] theorem judgeSummary_tank : (judgeSummary s).tank = s.tank := rfl
@[simp] theorem judgeSummary_hold : (judgeSummary s).hold = s.hold := rfl
@[simp] theorem judgeSummary_hull : (judgeSummary s).hull = s.hull := rfl
@[simp] theorem judgeSummary_pump : (judgeSummary s).pump = s.pump := rfl
@[simp] theorem judgeSummary_plan : (judgeSummary s).plan = s.plan := rfl
@[simp] theorem judgeSummary_report : (judgeSummary s).report = s.report := rfl
@[simp] theorem judgeSummary_line : (judgeSummary s).line = s.line := rfl
@[simp] theorem judgeSummary_console : (judgeSummary s).console = s.console := rfl
@[simp] theorem judgeSummary_start : (judgeSummary s).start = s.start := rfl
@[simp] theorem judgeSummary_close : (judgeSummary s).close = s.close := rfl
@[simp] theorem judgeSummary_pending : (judgeSummary s).pending = s.pending := rfl

/-! ### updateFault -/

@[simp] theorem updateFault_settings (code : FaultCode) (x : Nat) (f : FaultEntry → FaultEntry) : (updateFault code x f s).settings = s.settings := rfl
@[simp] theorem updateFault_tables (code : FaultCode) (x : Nat) (f : FaultEntry → FaultEntry) : (updateFault code x f s).tables = s.tables := rfl
@[simp] theorem updateFault_store (code : FaultCode) (x : Nat) (f : FaultEntry → FaultEntry) : (updateFault code x f s).store = s.store := rfl
@[simp] theorem updateFault_chan (code : FaultCode) (x : Nat) (f : FaultEntry → FaultEntry) : (updateFault code x f s).chan = s.chan := rfl
@[simp] theorem updateFault_tank (code : FaultCode) (x : Nat) (f : FaultEntry → FaultEntry) : (updateFault code x f s).tank = s.tank := rfl
@[simp] theorem updateFault_hold (code : FaultCode) (x : Nat) (f : FaultEntry → FaultEntry) : (updateFault code x f s).hold = s.hold := rfl
@[simp] theorem updateFault_hull (code : FaultCode) (x : Nat) (f : FaultEntry → FaultEntry) : (updateFault code x f s).hull = s.hull := rfl
@[simp] theorem updateFault_pump (code : FaultCode) (x : Nat) (f : FaultEntry → FaultEntry) : (updateFault code x f s).pump = s.pump := rfl
@[simp] theorem updateFault_plan (code : FaultCode) (x : Nat) (f : FaultEntry → FaultEntry) : (updateFault code x f s).plan = s.plan := rfl
@[simp] theorem updateFault_report (code : FaultCode) (x : Nat) (f : FaultEntry → FaultEntry) : (updateFault code x f s).report = s.report := rfl
@[simp] theorem updateFault_line (code : FaultCode) (x : Nat) (f : FaultEntry → FaultEntry) : (updateFault code x f s).line = s.line := rfl
@[simp] theorem updateFault_console (code : FaultCode) (x : Nat) (f : FaultEntry → FaultEntry) : (updateFault code x f s).console = s.console := rfl
@[simp] theorem updateFault_start (code : FaultCode) (x : Nat) (f : FaultEntry → FaultEntry) : (updateFault code x f s).start = s.start := rfl
@[simp] theorem updateFault_close (code : FaultCode) (x : Nat) (f : FaultEntry → FaultEntry) : (updateFault code x f s).close = s.close := rfl
@[simp] theorem updateFault_pending (code : FaultCode) (x : Nat) (f : FaultEntry → FaultEntry) : (updateFault code x f s).pending = s.pending := rfl

/-! ### frameEnd -/

@[simp] theorem frameEnd_settings : (frameEnd s).settings = s.settings := rfl
@[simp] theorem frameEnd_tables : (frameEnd s).tables = s.tables := rfl
@[simp] theorem frameEnd_store : (frameEnd s).store = s.store := rfl
@[simp] theorem frameEnd_chan : (frameEnd s).chan = s.chan := rfl
@[simp] theorem frameEnd_tank : (frameEnd s).tank = s.tank := rfl
@[simp] theorem frameEnd_hold : (frameEnd s).hold = s.hold := rfl
@[simp] theorem frameEnd_hull : (frameEnd s).hull = s.hull := rfl
@[simp] theorem frameEnd_pump : (frameEnd s).pump = s.pump := rfl
@[simp] theorem frameEnd_plan : (frameEnd s).plan = s.plan := rfl
@[simp] theorem frameEnd_report : (frameEnd s).report = s.report := rfl
@[simp] theorem frameEnd_line : (frameEnd s).line = s.line := rfl
@[simp] theorem frameEnd_fault : (frameEnd s).fault = s.fault := rfl
@[simp] theorem frameEnd_start : (frameEnd s).start = s.start := rfl
@[simp] theorem frameEnd_close : (frameEnd s).close = s.close := rfl
@[simp] theorem frameEnd_pending : (frameEnd s).pending = s.pending := rfl

/-! ### addPlace -/

@[simp] theorem addPlace_settings (tag order : Nat) (a : Answer) : (addPlace tag order a s).settings = s.settings := rfl
@[simp] theorem addPlace_tables (tag order : Nat) (a : Answer) : (addPlace tag order a s).tables = s.tables := rfl
@[simp] theorem addPlace_store (tag order : Nat) (a : Answer) : (addPlace tag order a s).store = s.store := rfl
@[simp] theorem addPlace_chan (tag order : Nat) (a : Answer) : (addPlace tag order a s).chan = s.chan := rfl
@[simp] theorem addPlace_tank (tag order : Nat) (a : Answer) : (addPlace tag order a s).tank = s.tank := rfl
@[simp] theorem addPlace_hold (tag order : Nat) (a : Answer) : (addPlace tag order a s).hold = s.hold := rfl
@[simp] theorem addPlace_hull (tag order : Nat) (a : Answer) : (addPlace tag order a s).hull = s.hull := rfl
@[simp] theorem addPlace_pump (tag order : Nat) (a : Answer) : (addPlace tag order a s).pump = s.pump := rfl
@[simp] theorem addPlace_plan (tag order : Nat) (a : Answer) : (addPlace tag order a s).plan = s.plan := rfl
@[simp] theorem addPlace_report (tag order : Nat) (a : Answer) : (addPlace tag order a s).report = s.report := rfl
@[simp] theorem addPlace_line (tag order : Nat) (a : Answer) : (addPlace tag order a s).line = s.line := rfl
@[simp] theorem addPlace_fault (tag order : Nat) (a : Answer) : (addPlace tag order a s).fault = s.fault := rfl
@[simp] theorem addPlace_start (tag order : Nat) (a : Answer) : (addPlace tag order a s).start = s.start := rfl
@[simp] theorem addPlace_close (tag order : Nat) (a : Answer) : (addPlace tag order a s).close = s.close := rfl
@[simp] theorem addPlace_pending (tag order : Nat) (a : Answer) : (addPlace tag order a s).pending = s.pending := rfl

/-! ### takeStep -/

@[simp] theorem takeStep_settings (c : CloseStep) : (takeStep c s).settings = s.settings := rfl
@[simp] theorem takeStep_tables (c : CloseStep) : (takeStep c s).tables = s.tables := rfl
@[simp] theorem takeStep_store (c : CloseStep) : (takeStep c s).store = s.store := rfl
@[simp] theorem takeStep_chan (c : CloseStep) : (takeStep c s).chan = s.chan := rfl
@[simp] theorem takeStep_tank (c : CloseStep) : (takeStep c s).tank = s.tank := rfl
@[simp] theorem takeStep_hold (c : CloseStep) : (takeStep c s).hold = s.hold := rfl
@[simp] theorem takeStep_hull (c : CloseStep) : (takeStep c s).hull = s.hull := rfl
@[simp] theorem takeStep_pump (c : CloseStep) : (takeStep c s).pump = s.pump := rfl
@[simp] theorem takeStep_plan (c : CloseStep) : (takeStep c s).plan = s.plan := rfl
@[simp] theorem takeStep_report (c : CloseStep) : (takeStep c s).report = s.report := rfl
@[simp] theorem takeStep_line (c : CloseStep) : (takeStep c s).line = s.line := rfl
@[simp] theorem takeStep_console (c : CloseStep) : (takeStep c s).console = s.console := rfl
@[simp] theorem takeStep_fault (c : CloseStep) : (takeStep c s).fault = s.fault := rfl
@[simp] theorem takeStep_start (c : CloseStep) : (takeStep c s).start = s.start := rfl
@[simp] theorem takeStep_pending (c : CloseStep) : (takeStep c s).pending = s.pending := rfl

/-! ### beginClose -/

@[simp] theorem beginClose_settings : (beginClose s).settings = s.settings := by unfold beginClose; split <;> rfl
@[simp] theorem beginClose_tables : (beginClose s).tables = s.tables := by unfold beginClose; split <;> rfl
@[simp] theorem beginClose_store : (beginClose s).store = s.store := by unfold beginClose; split <;> rfl
@[simp] theorem beginClose_chan : (beginClose s).chan = s.chan := by unfold beginClose; split <;> rfl
@[simp] theorem beginClose_tank : (beginClose s).tank = s.tank := by unfold beginClose; split <;> rfl
@[simp] theorem beginClose_hold : (beginClose s).hold = s.hold := by unfold beginClose; split <;> rfl
@[simp] theorem beginClose_hull : (beginClose s).hull = s.hull := by unfold beginClose; split <;> rfl
@[simp] theorem beginClose_pump : (beginClose s).pump = s.pump := by unfold beginClose; split <;> rfl
@[simp] theorem beginClose_plan : (beginClose s).plan = s.plan := by unfold beginClose; split <;> rfl
@[simp] theorem beginClose_report : (beginClose s).report = s.report := by unfold beginClose; split <;> rfl
@[simp] theorem beginClose_console : (beginClose s).console = s.console := by unfold beginClose; split <;> rfl
@[simp] theorem beginClose_fault : (beginClose s).fault = s.fault := by unfold beginClose; split <;> rfl
@[simp] theorem beginClose_start : (beginClose s).start = s.start := by unfold beginClose; split <;> rfl
@[simp] theorem beginClose_pending : (beginClose s).pending = s.pending := by unfold beginClose; split <;> rfl

/-! ### Reading records after a record has been written -/

@[simp] theorem chanRec_setTank (t : Nat) (r : TankRec) (k : Nat) : chanRec (setTank t r s) k = chanRec s k := by simp [chanRec]
@[simp] theorem chanRec_setHold (h : Nat) (r : HoldRec) (k : Nat) : chanRec (setHold h r s) k = chanRec s k := by simp [chanRec]
@[simp] theorem chanRec_setPump (p : Nat) (r : PumpRec) (k : Nat) : chanRec (setPump p r s) k = chanRec s k := by simp [chanRec]
@[simp] theorem chanRec_setNode (a : Nat) (r : NodeRec) (k : Nat) : chanRec (setNode a r s) k = chanRec s k := by simp [chanRec]
@[simp] theorem chanRec_setCtx (c : Ctx) (r : CtxRec) (k : Nat) : chanRec (setCtx c r s) k = chanRec s k := by simp [chanRec]
@[simp] theorem chanRec_judgeSummary (k : Nat) : chanRec (judgeSummary s) k = chanRec s k := by simp [chanRec]
@[simp] theorem chanRec_frameEnd (k : Nat) : chanRec (frameEnd s) k = chanRec s k := by simp [chanRec]
@[simp] theorem chanRec_addPlace (tag order : Nat) (a : Answer) (k : Nat) : chanRec (addPlace tag order a s) k = chanRec s k := by simp [chanRec]
@[simp] theorem chanRec_takeStep (c : CloseStep) (k : Nat) : chanRec (takeStep c s) k = chanRec s k := by simp [chanRec]
@[simp] theorem chanRec_beginClose (k : Nat) : chanRec (beginClose s) k = chanRec s k := by simp [chanRec]
@[simp] theorem tankRec_setChan (c : Nat) (r : ChannelRec) (k : Nat) : tankRec (setChan c r s) k = tankRec s k := by simp [tankRec]
@[simp] theorem tankRec_setDensity (t d : Nat) (k : Nat) : tankRec (setDensity t d s) k = tankRec s k := rfl
@[simp] theorem tankRec_setHold (h : Nat) (r : HoldRec) (k : Nat) : tankRec (setHold h r s) k = tankRec s k := by simp [tankRec]
@[simp] theorem tankRec_setPump (p : Nat) (r : PumpRec) (k : Nat) : tankRec (setPump p r s) k = tankRec s k := by simp [tankRec]
@[simp] theorem tankRec_setNode (a : Nat) (r : NodeRec) (k : Nat) : tankRec (setNode a r s) k = tankRec s k := by simp [tankRec]
@[simp] theorem tankRec_setCtx (c : Ctx) (r : CtxRec) (k : Nat) : tankRec (setCtx c r s) k = tankRec s k := by simp [tankRec]
@[simp] theorem tankRec_judgeSummary (k : Nat) : tankRec (judgeSummary s) k = tankRec s k := by simp [tankRec]
@[simp] theorem tankRec_frameEnd (k : Nat) : tankRec (frameEnd s) k = tankRec s k := by simp [tankRec]
@[simp] theorem tankRec_addPlace (tag order : Nat) (a : Answer) (k : Nat) : tankRec (addPlace tag order a s) k = tankRec s k := by simp [tankRec]
@[simp] theorem tankRec_takeStep (c : CloseStep) (k : Nat) : tankRec (takeStep c s) k = tankRec s k := by simp [tankRec]
@[simp] theorem tankRec_beginClose (k : Nat) : tankRec (beginClose s) k = tankRec s k := by simp [tankRec]
@[simp] theorem density_setChan (c : Nat) (r : ChannelRec) (k : Nat) : density (setChan c r s) k = density s k := by simp [density]
@[simp] theorem density_setTank (t : Nat) (r : TankRec) (k : Nat) : density (setTank t r s) k = density s k := rfl
@[simp] theorem density_setHold (h : Nat) (r : HoldRec) (k : Nat) : density (setHold h r s) k = density s k := by simp [density]
@[simp] theorem density_setPump (p : Nat) (r : PumpRec) (k : Nat) : density (setPump p r s) k = density s k := by simp [density]
@[simp] theorem density_setNode (a : Nat) (r : NodeRec) (k : Nat) : density (setNode a r s) k = density s k := by simp [density]
@[simp] theorem density_setCtx (c : Ctx) (r : CtxRec) (k : Nat) : density (setCtx c r s) k = density s k := by simp [density]
@[simp] theorem density_judgeSummary (k : Nat) : density (judgeSummary s) k = density s k := by simp [density]
@[simp] theorem density_frameEnd (k : Nat) : density (frameEnd s) k = density s k := by simp [density]
@[simp] theorem density_addPlace (tag order : Nat) (a : Answer) (k : Nat) : density (addPlace tag order a s) k = density s k := by simp [density]
@[simp] theorem density_takeStep (c : CloseStep) (k : Nat) : density (takeStep c s) k = density s k := by simp [density]
@[simp] theorem density_beginClose (k : Nat) : density (beginClose s) k = density s k := by simp [density]
@[simp] theorem holdRec_setChan (c : Nat) (r : ChannelRec) (k : Nat) : holdRec (setChan c r s) k = holdRec s k := by simp [holdRec]
@[simp] theorem holdRec_setTank (t : Nat) (r : TankRec) (k : Nat) : holdRec (setTank t r s) k = holdRec s k := by simp [holdRec]
@[simp] theorem holdRec_setDensity (t d : Nat) (k : Nat) : holdRec (setDensity t d s) k = holdRec s k := by simp [holdRec]
@[simp] theorem holdRec_setPump (p : Nat) (r : PumpRec) (k : Nat) : holdRec (setPump p r s) k = holdRec s k := by simp [holdRec]
@[simp] theorem holdRec_setNode (a : Nat) (r : NodeRec) (k : Nat) : holdRec (setNode a r s) k = holdRec s k := by simp [holdRec]
@[simp] theorem holdRec_setCtx (c : Ctx) (r : CtxRec) (k : Nat) : holdRec (setCtx c r s) k = holdRec s k := by simp [holdRec]
@[simp] theorem holdRec_judgeSummary (k : Nat) : holdRec (judgeSummary s) k = holdRec s k := by simp [holdRec]
@[simp] theorem holdRec_frameEnd (k : Nat) : holdRec (frameEnd s) k = holdRec s k := by simp [holdRec]
@[simp] theorem holdRec_addPlace (tag order : Nat) (a : Answer) (k : Nat) : holdRec (addPlace tag order a s) k = holdRec s k := by simp [holdRec]
@[simp] theorem holdRec_takeStep (c : CloseStep) (k : Nat) : holdRec (takeStep c s) k = holdRec s k := by simp [holdRec]
@[simp] theorem holdRec_beginClose (k : Nat) : holdRec (beginClose s) k = holdRec s k := by simp [holdRec]
@[simp] theorem pumpRec_setChan (c : Nat) (r : ChannelRec) (k : Nat) : pumpRec (setChan c r s) k = pumpRec s k := by simp [pumpRec]
@[simp] theorem pumpRec_setTank (t : Nat) (r : TankRec) (k : Nat) : pumpRec (setTank t r s) k = pumpRec s k := by simp [pumpRec]
@[simp] theorem pumpRec_setDensity (t d : Nat) (k : Nat) : pumpRec (setDensity t d s) k = pumpRec s k := by simp [pumpRec]
@[simp] theorem pumpRec_setHold (h : Nat) (r : HoldRec) (k : Nat) : pumpRec (setHold h r s) k = pumpRec s k := by simp [pumpRec]
@[simp] theorem pumpRec_setNode (a : Nat) (r : NodeRec) (k : Nat) : pumpRec (setNode a r s) k = pumpRec s k := by simp [pumpRec]
@[simp] theorem pumpRec_setCtx (c : Ctx) (r : CtxRec) (k : Nat) : pumpRec (setCtx c r s) k = pumpRec s k := by simp [pumpRec]
@[simp] theorem pumpRec_judgeSummary (k : Nat) : pumpRec (judgeSummary s) k = pumpRec s k := by simp [pumpRec]
@[simp] theorem pumpRec_frameEnd (k : Nat) : pumpRec (frameEnd s) k = pumpRec s k := by simp [pumpRec]
@[simp] theorem pumpRec_addPlace (tag order : Nat) (a : Answer) (k : Nat) : pumpRec (addPlace tag order a s) k = pumpRec s k := by simp [pumpRec]
@[simp] theorem pumpRec_takeStep (c : CloseStep) (k : Nat) : pumpRec (takeStep c s) k = pumpRec s k := by simp [pumpRec]
@[simp] theorem pumpRec_beginClose (k : Nat) : pumpRec (beginClose s) k = pumpRec s k := by simp [pumpRec]

/-- Reading a channel record after writing one. -/
theorem chanRec_setChan (c k : Nat) (r : ChannelRec) :
    chanRec (setChan c r s) k = if c = k ∧ k < 96 then r else chanRec s k := by
  simp only [chanRec, setChan, Vector.getElem?_setIfInBounds]
  by_cases h : c = k
  · subst h
    by_cases h' : c < 96 <;> simp [h']
  · simp [h]

/-- Reading a tank's dynamic part after writing one. -/
theorem tankRec_setTank (c k : Nat) (r : TankRec) :
    tankRec (setTank c r s) k = if c = k ∧ k < 64 then r else tankRec s k := by
  simp only [tankRec, setTank, Vector.getElem?_setIfInBounds]
  by_cases h : c = k
  · subst h
    by_cases h' : c < 64 <;> simp [h']
  · simp [h]

/-- Reading a hold record after writing one. -/
theorem holdRec_setHold (c k : Nat) (r : HoldRec) :
    holdRec (setHold c r s) k = if c = k ∧ k < 12 then r else holdRec s k := by
  simp only [holdRec, setHold, Vector.getElem?_setIfInBounds]
  by_cases h : c = k
  · subst h
    by_cases h' : c < 12 <;> simp [h']
  · simp [h]

/-- Reading a pump record after writing one. -/
theorem pumpRec_setPump (c k : Nat) (r : PumpRec) :
    pumpRec (setPump c r s) k = if c = k ∧ k < 4 then r else pumpRec s k := by
  simp only [pumpRec, setPump, Vector.getElem?_setIfInBounds]
  by_cases h : c = k
  · subst h
    by_cases h' : c < 4 <;> simp [h']
  · simp [h]

/-- Reading a density after writing one. -/
theorem density_setDensity (c k d : Nat) :
    density (setDensity c d s) k = if c = k ∧ k < 64 then d else density s k := by
  simp only [density, setDensity, Vector.getElem?_setIfInBounds]
  by_cases h : c = k
  · subst h
    by_cases h' : c < 64 <;> simp [h']
  · simp [h]

/-- Reading a context record after writing one. -/
theorem ctxRec_setCtx (c d : Ctx) (r : CtxRec) : ctxRec (setCtx c r s) d = if c = d then r else ctxRec s d := by
  cases c <;> cases d <;> rfl

/-- A context record is written over. -/
@[simp] theorem setCtx_setCtx (c : Ctx) (r q : CtxRec) : setCtx c r (setCtx c q s) = setCtx c r s := by
  cases c <;> rfl

/-- A hold record is written over. -/
@[simp] theorem setHold_setHold (h : Nat) (r q : HoldRec) : setHold h r (setHold h q s) = setHold h r s := by
  simp only [setHold]
  congr 2
  ext i hi
  simp only [Vector.getElem_setIfInBounds]
  split <;> rfl

/-- A pump record is written over. -/
@[simp] theorem setPump_setPump (p : Nat) (r q : PumpRec) : setPump p r (setPump p q s) = setPump p r s := by
  simp only [setPump]
  congr 2
  ext i hi
  simp only [Vector.getElem_setIfInBounds]
  split <;> rfl

/-- A tank's dynamic part is written over. -/
@[simp] theorem setTank_setTank (t : Nat) (r q : TankRec) : setTank t r (setTank t q s) = setTank t r s := by
  simp only [setTank]
  congr 2
  ext i hi
  simp only [Vector.getElem_setIfInBounds]
  split <;> rfl

/-- Writing the record read changes nothing. -/
theorem setPump_pumpRec (p : Nat) : setPump p (pumpRec s p) s = s := by
  obtain ⟨a1, a2, a3, a4, a5, a6, a7, ⟨v, q, po, lo⟩, a9, a10, a11, a12, a13, a14, a15, a16⟩ := s
  simp only [setPump, pumpRec]
  congr 2
  ext i hi
  simp only [Vector.getElem_setIfInBounds]
  split
  · subst_vars; simp [hi]
  · rfl

/-- The designation is not a context's record. -/
@[simp] theorem setCtx_designated (c : Ctx) (r : CtxRec) : (setCtx c r s).plan.designated = s.plan.designated := by
  cases c <;> rfl

/-- Nor is the exchange record. -/
@[simp] theorem setCtx_exchange (c : Ctx) (r : CtxRec) : (setCtx c r s).plan.exchange = s.plan.exchange := by
  cases c <;> rfl

end Sys2Proof.Machine
end

