-- ==== Sys2Proof/Laws/Faults.lean ====
section
/-! SUPPORT. What posting a report and telling the Fault Unit can do: they change the Report Queue and the Fault List and
nothing else; and a judged summary line is the one R185 asks for. -/

namespace Sys2Proof.Machine

open Sys2Proof

variable (s : State)

/-- The DISPLACED message changes the Fault List alone. -/
theorem tellDisplaced_eq (k : Option ReportKey) : ∃ l, tellDisplaced k s = { s with fault := l } := by
  unfold tellDisplaced
  split
  · exact ⟨_, rfl⟩
  · exact ⟨s.fault, rfl⟩

/-- Posting changes the Report Queue, and the Fault List when a FAULT entry is displaced. -/
theorem post_eq (r : Report) : ∃ l, post r s =
    { s with report := { s.report with queue := (postQueue r s.report.queue).queue }, fault := l } := by
  obtain ⟨l, h⟩ := tellDisplaced_eq
    { s with report := { s.report with queue := (postQueue r s.report.queue).queue } }
    (postQueue r s.report.queue).displaced
  exact ⟨l, h⟩

/-- The queue after a posting is the one R145 gives. -/
@[simp] theorem post_queue (r : Report) : (post r s).report.queue = (postQueue r s.report.queue).queue := by
  obtain ⟨_, h⟩ := post_eq s r
  rw [h]

/-- A FAULT posting changes the Report Queue and the Fault List. -/
theorem postFault_eq (code : FaultCode) (x : Nat) : ∃ q l, postFault code x s = { s with report := q, fault := l } := by
  unfold postFault
  split
  · exact ⟨s.report, s.fault, rfl⟩
  · rename_i e _
    obtain ⟨l, h⟩ := post_eq s (.fault ⟨code, x, e.firstCycle, e.active, s.line.lastClosed⟩)
    simp only [h]
    exact ⟨_, _, rfl⟩

/-- A joining entry changes the Report Queue and the Fault List. -/
theorem joinFault_eq (code : FaultCode) (x : Nat) : ∃ q l, joinFault code x s = { s with report := q, fault := l } := by
  obtain ⟨q, l, h⟩ := postFault_eq { s with fault := { s.fault with
    list := s.fault.list ++ [⟨code, x, s.line.lastClosed, true, false, false⟩] } } code x
  unfold joinFault
  simp only [h]
  exact ⟨_, _, rfl⟩

/-- An "active" message changes the Report Queue and the Fault List (R181, R182). -/
theorem tellActive_eq (code : FaultCode) (x : Nat) : ∃ q l, tellActive code x s = { s with report := q, fault := l } := by
  unfold tellActive
  split
  · split
    · exact ⟨s.report, s.fault, rfl⟩
    · obtain ⟨q, l, h⟩ := postFault_eq (updateFault code x (fun e => { e with active := true, reported := false }) s)
        code x
      simp only [h]
      exact ⟨_, _, rfl⟩
  · split
    · exact joinFault_eq s code x
    · split
      · obtain ⟨q, l, h⟩ := joinFault_eq { s with fault := { s.fault with
          list := removeFirst (fun e => e.code.priority == lowestPriority s.fault.list) s.fault.list } } code x
        simp only [h]
        exact ⟨_, _, rfl⟩
      · exact ⟨s.report, _, rfl⟩

/-- An entry that becomes GONE changes the Report Queue and the Fault List (R181). -/
theorem makeGone_eq (code : FaultCode) (x : Nat) : ∃ q l, makeGone code x s = { s with report := q, fault := l } := by
  unfold makeGone
  split
  · split
    · obtain ⟨q, l, h⟩ := postFault_eq (updateFault code x (fun e => { e with active := false, reported := false }) s)
        code x
      simp only [h]
      exact ⟨_, _, rfl⟩
    · exact ⟨s.report, s.fault, rfl⟩
  · exact ⟨s.report, s.fault, rfl⟩

/-- An "ended" message changes the Report Queue and the Fault List (R181). -/
theorem tellEnded_eq (code : FaultCode) (x : Nat) : ∃ q l, tellEnded code x s = { s with report := q, fault := l } := by
  unfold tellEnded
  split
  · exact makeGone_eq s code x
  · exact ⟨s.report, s.fault, rfl⟩

/-- A flag that changed is told as active or as ended. -/
theorem tellChange_eq (code : FaultCode) (x : Nat) (was is : Bool) :
    ∃ q l, tellChange code x was is s = { s with report := q, fault := l } := by
  unfold tellChange
  split
  · exact ⟨s.report, s.fault, rfl⟩
  · split
    · exact tellActive_eq s code x
    · exact tellEnded_eq s code x

/-- A judged summary line meets R185. -/
theorem judgeSummary_summary : (judgeSummary s).fault.summary = summaryDue s := rfl

/-! ### post -/

@[simp] theorem post_settings (r : Report) : (post r s).settings = s.settings := by obtain ⟨_, h⟩ := post_eq s r; rw [h]
@[simp] theorem post_tables (r : Report) : (post r s).tables = s.tables := by obtain ⟨_, h⟩ := post_eq s r; rw [h]
@[simp] theorem post_store (r : Report) : (post r s).store = s.store := by obtain ⟨_, h⟩ := post_eq s r; rw [h]
@[simp] theorem post_chan (r : Report) : (post r s).chan = s.chan := by obtain ⟨_, h⟩ := post_eq s r; rw [h]
@[simp] theorem post_tank (r : Report) : (post r s).tank = s.tank := by obtain ⟨_, h⟩ := post_eq s r; rw [h]
@[simp] theorem post_hold (r : Report) : (post r s).hold = s.hold := by obtain ⟨_, h⟩ := post_eq s r; rw [h]
@[simp] theorem post_hull (r : Report) : (post r s).hull = s.hull := by obtain ⟨_, h⟩ := post_eq s r; rw [h]
@[simp] theorem post_pump (r : Report) : (post r s).pump = s.pump := by obtain ⟨_, h⟩ := post_eq s r; rw [h]
@[simp] theorem post_plan (r : Report) : (post r s).plan = s.plan := by obtain ⟨_, h⟩ := post_eq s r; rw [h]
@[simp] theorem post_line (r : Report) : (post r s).line = s.line := by obtain ⟨_, h⟩ := post_eq s r; rw [h]
@[simp] theorem post_console (r : Report) : (post r s).console = s.console := by obtain ⟨_, h⟩ := post_eq s r; rw [h]
@[simp] theorem post_start (r : Report) : (post r s).start = s.start := by obtain ⟨_, h⟩ := post_eq s r; rw [h]
@[simp] theorem post_close (r : Report) : (post r s).close = s.close := by obtain ⟨_, h⟩ := post_eq s r; rw [h]
@[simp] theorem post_pending (r : Report) : (post r s).pending = s.pending := by obtain ⟨_, h⟩ := post_eq s r; rw [h]

/-! ### postFault -/

@[simp] theorem postFault_settings (code : FaultCode) (x : Nat) : (postFault code x s).settings = s.settings := by obtain ⟨_, _, h⟩ := postFault_eq s code x; rw [h]
@[simp] theorem postFault_tables (code : FaultCode) (x : Nat) : (postFault code x s).tables = s.tables := by obtain ⟨_, _, h⟩ := postFault_eq s code x; rw [h]
@[simp] theorem postFault_store (code : FaultCode) (x : Nat) : (postFault code x s).store = s.store := by obtain ⟨_, _, h⟩ := postFault_eq s code x; rw [h]
@[simp] theorem postFault_chan (code : FaultCode) (x : Nat) : (postFault code x s).chan = s.chan := by obtain ⟨_, _, h⟩ := postFault_eq s code x; rw [h]
@[simp] theorem postFault_tank (code : FaultCode) (x : Nat) : (postFault code x s).tank = s.tank := by obtain ⟨_, _, h⟩ := postFault_eq s code x; rw [h]
@[simp] theorem postFault_hold (code : FaultCode) (x : Nat) : (postFault code x s).hold = s.hold := by obtain ⟨_, _, h⟩ := postFault_eq s code x; rw [h]
@[simp] theorem postFault_hull (code : FaultCode) (x : Nat) : (postFault code x s).hull = s.hull := by obtain ⟨_, _, h⟩ := postFault_eq s code x; rw [h]
@[simp] theorem postFault_pump (code : FaultCode) (x : Nat) : (postFault code x s).pump = s.pump := by obtain ⟨_, _, h⟩ := postFault_eq s code x; rw [h]
@[simp] theorem postFault_plan (code : FaultCode) (x : Nat) : (postFault code x s).plan = s.plan := by obtain ⟨_, _, h⟩ := postFault_eq s code x; rw [h]
@[simp] theorem postFault_line (code : FaultCode) (x : Nat) : (postFault code x s).line = s.line := by obtain ⟨_, _, h⟩ := postFault_eq s code x; rw [h]
@[simp] theorem postFault_console (code : FaultCode) (x : Nat) : (postFault code x s).console = s.console := by obtain ⟨_, _, h⟩ := postFault_eq s code x; rw [h]
@[simp] theorem postFault_start (code : FaultCode) (x : Nat) : (postFault code x s).start = s.start := by obtain ⟨_, _, h⟩ := postFault_eq s code x; rw [h]
@[simp] theorem postFault_close (code : FaultCode) (x : Nat) : (postFault code x s).close = s.close := by obtain ⟨_, _, h⟩ := postFault_eq s code x; rw [h]
@[simp] theorem postFault_pending (code : FaultCode) (x : Nat) : (postFault code x s).pending = s.pending := by obtain ⟨_, _, h⟩ := postFault_eq s code x; rw [h]

/-! ### tellActive -/

@[simp] theorem tellActive_settings (code : FaultCode) (x : Nat) : (tellActive code x s).settings = s.settings := by obtain ⟨_, _, h⟩ := tellActive_eq s code x; rw [h]
@[simp] theorem tellActive_tables (code : FaultCode) (x : Nat) : (tellActive code x s).tables = s.tables := by obtain ⟨_, _, h⟩ := tellActive_eq s code x; rw [h]
@[simp] theorem tellActive_store (code : FaultCode) (x : Nat) : (tellActive code x s).store = s.store := by obtain ⟨_, _, h⟩ := tellActive_eq s code x; rw [h]
@[simp] theorem tellActive_chan (code : FaultCode) (x : Nat) : (tellActive code x s).chan = s.chan := by obtain ⟨_, _, h⟩ := tellActive_eq s code x; rw [h]
@[simp] theorem tellActive_tank (code : FaultCode) (x : Nat) : (tellActive code x s).tank = s.tank := by obtain ⟨_, _, h⟩ := tellActive_eq s code x; rw [h]
@[simp] theorem tellActive_hold (code : FaultCode) (x : Nat) : (tellActive code x s).hold = s.hold := by obtain ⟨_, _, h⟩ := tellActive_eq s code x; rw [h]
@[simp] theorem tellActive_hull (code : FaultCode) (x : Nat) : (tellActive code x s).hull = s.hull := by obtain ⟨_, _, h⟩ := tellActive_eq s code x; rw [h]
@[simp] theorem tellActive_pump (code : FaultCode) (x : Nat) : (tellActive code x s).pump = s.pump := by obtain ⟨_, _, h⟩ := tellActive_eq s code x; rw [h]
@[simp] theorem tellActive_plan (code : FaultCode) (x : Nat) : (tellActive code x s).plan = s.plan := by obtain ⟨_, _, h⟩ := tellActive_eq s code x; rw [h]
@[simp] theorem tellActive_line (code : FaultCode) (x : Nat) : (tellActive code x s).line = s.line := by obtain ⟨_, _, h⟩ := tellActive_eq s code x; rw [h]
@[simp] theorem tellActive_console (code : FaultCode) (x : Nat) : (tellActive code x s).console = s.console := by obtain ⟨_, _, h⟩ := tellActive_eq s code x; rw [h]
@[simp] theorem tellActive_start (code : FaultCode) (x : Nat) : (tellActive code x s).start = s.start := by obtain ⟨_, _, h⟩ := tellActive_eq s code x; rw [h]
@[simp] theorem tellActive_close (code : FaultCode) (x : Nat) : (tellActive code x s).close = s.close := by obtain ⟨_, _, h⟩ := tellActive_eq s code x; rw [h]
@[simp] theorem tellActive_pending (code : FaultCode) (x : Nat) : (tellActive code x s).pending = s.pending := by obtain ⟨_, _, h⟩ := tellActive_eq s code x; rw [h]

/-! ### makeGone -/

@[simp] theorem makeGone_settings (code : FaultCode) (x : Nat) : (makeGone code x s).settings = s.settings := by obtain ⟨_, _, h⟩ := makeGone_eq s code x; rw [h]
@[simp] theorem makeGone_tables (code : FaultCode) (x : Nat) : (makeGone code x s).tables = s.tables := by obtain ⟨_, _, h⟩ := makeGone_eq s code x; rw [h]
@[simp] theorem makeGone_store (code : FaultCode) (x : Nat) : (makeGone code x s).store = s.store := by obtain ⟨_, _, h⟩ := makeGone_eq s code x; rw [h]
@[simp] theorem makeGone_chan (code : FaultCode) (x : Nat) : (makeGone code x s).chan = s.chan := by obtain ⟨_, _, h⟩ := makeGone_eq s code x; rw [h]
@[simp] theorem makeGone_tank (code : FaultCode) (x : Nat) : (makeGone code x s).tank = s.tank := by obtain ⟨_, _, h⟩ := makeGone_eq s code x; rw [h]
@[simp] theorem makeGone_hold (code : FaultCode) (x : Nat) : (makeGone code x s).hold = s.hold := by obtain ⟨_, _, h⟩ := makeGone_eq s code x; rw [h]
@[simp] theorem makeGone_hull (code : FaultCode) (x : Nat) : (makeGone code x s).hull = s.hull := by obtain ⟨_, _, h⟩ := makeGone_eq s code x; rw [h]
@[simp] theorem makeGone_pump (code : FaultCode) (x : Nat) : (makeGone code x s).pump = s.pump := by obtain ⟨_, _, h⟩ := makeGone_eq s code x; rw [h]
@[simp] theorem makeGone_plan (code : FaultCode) (x : Nat) : (makeGone code x s).plan = s.plan := by obtain ⟨_, _, h⟩ := makeGone_eq s code x; rw [h]
@[simp] theorem makeGone_line (code : FaultCode) (x : Nat) : (makeGone code x s).line = s.line := by obtain ⟨_, _, h⟩ := makeGone_eq s code x; rw [h]
@[simp] theorem makeGone_console (code : FaultCode) (x : Nat) : (makeGone code x s).console = s.console := by obtain ⟨_, _, h⟩ := makeGone_eq s code x; rw [h]
@[simp] theorem makeGone_start (code : FaultCode) (x : Nat) : (makeGone code x s).start = s.start := by obtain ⟨_, _, h⟩ := makeGone_eq s code x; rw [h]
@[simp] theorem makeGone_close (code : FaultCode) (x : Nat) : (makeGone code x s).close = s.close := by obtain ⟨_, _, h⟩ := makeGone_eq s code x; rw [h]
@[simp] theorem makeGone_pending (code : FaultCode) (x : Nat) : (makeGone code x s).pending = s.pending := by obtain ⟨_, _, h⟩ := makeGone_eq s code x; rw [h]

/-! ### tellEnded -/

@[simp] theorem tellEnded_settings (code : FaultCode) (x : Nat) : (tellEnded code x s).settings = s.settings := by obtain ⟨_, _, h⟩ := tellEnded_eq s code x; rw [h]
@[simp] theorem tellEnded_tables (code : FaultCode) (x : Nat) : (tellEnded code x s).tables = s.tables := by obtain ⟨_, _, h⟩ := tellEnded_eq s code x; rw [h]
@[simp] theorem tellEnded_store (code : FaultCode) (x : Nat) : (tellEnded code x s).store = s.store := by obtain ⟨_, _, h⟩ := tellEnded_eq s code x; rw [h]
@[simp] theorem tellEnded_chan (code : FaultCode) (x : Nat) : (tellEnded code x s).chan = s.chan := by obtain ⟨_, _, h⟩ := tellEnded_eq s code x; rw [h]
@[simp] theorem tellEnded_tank (code : FaultCode) (x : Nat) : (tellEnded code x s).tank = s.tank := by obtain ⟨_, _, h⟩ := tellEnded_eq s code x; rw [h]
@[simp] theorem tellEnded_hold (code : FaultCode) (x : Nat) : (tellEnded code x s).hold = s.hold := by obtain ⟨_, _, h⟩ := tellEnded_eq s code x; rw [h]
@[simp] theorem tellEnded_hull (code : FaultCode) (x : Nat) : (tellEnded code x s).hull = s.hull := by obtain ⟨_, _, h⟩ := tellEnded_eq s code x; rw [h]
@[simp] theorem tellEnded_pump (code : FaultCode) (x : Nat) : (tellEnded code x s).pump = s.pump := by obtain ⟨_, _, h⟩ := tellEnded_eq s code x; rw [h]
@[simp] theorem tellEnded_plan (code : FaultCode) (x : Nat) : (tellEnded code x s).plan = s.plan := by obtain ⟨_, _, h⟩ := tellEnded_eq s code x; rw [h]
@[simp] theorem tellEnded_line (code : FaultCode) (x : Nat) : (tellEnded code x s).line = s.line := by obtain ⟨_, _, h⟩ := tellEnded_eq s code x; rw [h]
@[simp] theorem tellEnded_console (code : FaultCode) (x : Nat) : (tellEnded code x s).console = s.console := by obtain ⟨_, _, h⟩ := tellEnded_eq s code x; rw [h]
@[simp] theorem tellEnded_start (code : FaultCode) (x : Nat) : (tellEnded code x s).start = s.start := by obtain ⟨_, _, h⟩ := tellEnded_eq s code x; rw [h]
@[simp] theorem tellEnded_close (code : FaultCode) (x : Nat) : (tellEnded code x s).close = s.close := by obtain ⟨_, _, h⟩ := tellEnded_eq s code x; rw [h]
@[simp] theorem tellEnded_pending (code : FaultCode) (x : Nat) : (tellEnded code x s).pending = s.pending := by obtain ⟨_, _, h⟩ := tellEnded_eq s code x; rw [h]

/-! ### tellChange -/

@[simp] theorem tellChange_settings (code : FaultCode) (x : Nat) (was is : Bool) : (tellChange code x was is s).settings = s.settings := by obtain ⟨_, _, h⟩ := tellChange_eq s code x was is; rw [h]
@[simp] theorem tellChange_tables (code : FaultCode) (x : Nat) (was is : Bool) : (tellChange code x was is s).tables = s.tables := by obtain ⟨_, _, h⟩ := tellChange_eq s code x was is; rw [h]
@[simp] theorem tellChange_store (code : FaultCode) (x : Nat) (was is : Bool) : (tellChange code x was is s).store = s.store := by obtain ⟨_, _, h⟩ := tellChange_eq s code x was is; rw [h]
@[simp] theorem tellChange_chan (code : FaultCode) (x : Nat) (was is : Bool) : (tellChange code x was is s).chan = s.chan := by obtain ⟨_, _, h⟩ := tellChange_eq s code x was is; rw [h]
@[simp] theorem tellChange_tank (code : FaultCode) (x : Nat) (was is : Bool) : (tellChange code x was is s).tank = s.tank := by obtain ⟨_, _, h⟩ := tellChange_eq s code x was is; rw [h]
@[simp] theorem tellChange_hold (code : FaultCode) (x : Nat) (was is : Bool) : (tellChange code x was is s).hold = s.hold := by obtain ⟨_, _, h⟩ := tellChange_eq s code x was is; rw [h]
@[simp] theorem tellChange_hull (code : FaultCode) (x : Nat) (was is : Bool) : (tellChange code x was is s).hull = s.hull := by obtain ⟨_, _, h⟩ := tellChange_eq s code x was is; rw [h]
@[simp] theorem tellChange_pump (code : FaultCode) (x : Nat) (was is : Bool) : (tellChange code x was is s).pump = s.pump := by obtain ⟨_, _, h⟩ := tellChange_eq s code x was is; rw [h]
@[simp] theorem tellChange_plan (code : FaultCode) (x : Nat) (was is : Bool) : (tellChange code x was is s).plan = s.plan := by obtain ⟨_, _, h⟩ := tellChange_eq s code x was is; rw [h]
@[simp] theorem tellChange_line (code : FaultCode) (x : Nat) (was is : Bool) : (tellChange code x was is s).line = s.line := by obtain ⟨_, _, h⟩ := tellChange_eq s code x was is; rw [h]
@[simp] theorem tellChange_console (code : FaultCode) (x : Nat) (was is : Bool) : (tellChange code x was is s).console = s.console := by obtain ⟨_, _, h⟩ := tellChange_eq s code x was is; rw [h]
@[simp] theorem tellChange_start (code : FaultCode) (x : Nat) (was is : Bool) : (tellChange code x was is s).start = s.start := by obtain ⟨_, _, h⟩ := tellChange_eq s code x was is; rw [h]
@[simp] theorem tellChange_close (code : FaultCode) (x : Nat) (was is : Bool) : (tellChange code x was is s).close = s.close := by obtain ⟨_, _, h⟩ := tellChange_eq s code x was is; rw [h]
@[simp] theorem tellChange_pending (code : FaultCode) (x : Nat) (was is : Bool) : (tellChange code x was is s).pending = s.pending := by obtain ⟨_, _, h⟩ := tellChange_eq s code x was is; rw [h]

/-- A displaced FAULT entry is owed again, and its ACTIVE state stays. -/
theorem tellDisplaced_active (k : Option ReportKey) :
    (tellDisplaced k s).fault.list.map (fun e => (e.code, e.subject, e.active)) =
      s.fault.list.map (fun e => (e.code, e.subject, e.active)) := by
  unfold tellDisplaced
  split
  · simp only [updateFault, List.map_map]
    apply List.map_congr_left
    intro e _
    simp only [Function.comp]
    split <;> rfl
  · rfl

/-- Posting a report leaves the codes, subjects and ACTIVE states of the Fault List as they are. -/
theorem post_active (r : Report) :
    (post r s).fault.list.map (fun e => (e.code, e.subject, e.active)) =
      s.fault.list.map (fun e => (e.code, e.subject, e.active)) := tellDisplaced_active _ _

end Sys2Proof.Machine
end

