-- ==== Sys2Proof/Laws/Pumps.lean ====
section
/-! SUPPORT. The blocks that the operations of the Pump Unit and the Plan Unit can change: each lemma gives the result as
the state before with some blocks replaced, so every other block reads as before. -/

namespace Sys2Proof.Machine

open Sys2Proof

variable (s : State)

/-- A fold keeps what each of its steps keeps, when that is reflexive and transitive. -/
theorem foldl_keeps {α : Type} (R : State → State → Prop) (refl : ∀ u, R u u) (trans : ∀ u v w, R u v → R v w → R u w)
    (f : State → α → State) (one : ∀ u x, R u (f u x)) (l : List α) : ∀ u, R u (l.foldl f u) := by
  induction l with
  | nil => exact refl
  | cons x _ ih => exact fun u => trans _ _ _ (one u x) (ih _)

/-- A posted command changes the postings and the actuator command queue (R89). -/
theorem postCommand_eq (w : Option Nat) (o : Option OutputRef) (c : ActCommand) :
    ∃ p l, postCommand w o c s = { s with pump := p, line := l } := by
  unfold postCommand
  split
  · exact ⟨s.pump, s.line, rfl⟩
  · split
    · exact ⟨_, _, rfl⟩
    · exact ⟨s.pump, s.line, rfl⟩

/-- The entry of a stage changes the pumps and the actuator command queue (R89). -/
theorem enterStage_eq (p t : Nat) (g : PumpStage) : ∃ u l, enterStage p t g s = { s with pump := u, line := l } := by
  unfold enterStage
  dsimp only
  split
  · rename_i o c _
    obtain ⟨u, l, h⟩ := postCommand_eq
      (unwatch p (setPump p { pumpRec s p with stage := g, counter := 0, placed := false } s)) (some p) o c
    exact ⟨u, l, h⟩
  · exact ⟨_, s.line, rfl⟩

/-- The consideration of a pump changes the pumps, the tanks' serving pumps and the actuator command queue (R88, R90). -/
theorem considerPump_eq (p : Nat) : ∃ u k l, considerPump p s = { s with pump := u, tank := k, line := l } := by
  unfold considerPump
  split
  · split
    · rename_i e _
      unfold grant
      dsimp only
      obtain ⟨u, l, h⟩ := enterStage_eq (setTank e.tank { tankRec (setPump p _ _) e.tank with serving := some p }
        (setPump p { pumpRec { s with pump := { s.pump with
            queue := removeFirst (fun x => x.tank == e.tank) s.pump.queue } } p with
          tank := some e.tank, job := some (e.ctx, e.step), trouble := false, clean := false }
          { s with pump := { s.pump with queue := removeFirst (fun x => x.tank == e.tank) s.pump.queue } }))
        p e.tank .opening
      exact ⟨u, _, l, h⟩
    · exact ⟨s.pump, s.tank, s.line, rfl⟩
  · exact ⟨s.pump, s.tank, s.line, rfl⟩

/-- The arbiter changes what its grants change (R88). -/
theorem arbiter_eq : ∃ u k l, arbiter s = { s with pump := u, tank := k, line := l } := by
  unfold arbiter
  split
  · refine foldl_keeps (fun s t => ∃ u k l, t = { s with pump := u, tank := k, line := l })
      (fun s => ⟨s.pump, s.tank, s.line, rfl⟩) ?_ _ considerPump_eq _ s
    rintro s t v ⟨_, _, _, rfl⟩ ⟨u, k, l, rfl⟩
    exact ⟨u, k, l, rfl⟩
  · exact ⟨s.pump, s.tank, s.line, rfl⟩

/-- A request changes the request queue and what the arbiter changes (R87, R88). -/
theorem requestPump_eq (e : ReqEntry) : ∃ u k l, requestPump e s = { s with pump := u, tank := k, line := l } := by
  unfold requestPump
  split
  · exact ⟨s.pump, s.tank, s.line, rfl⟩
  · split
    · exact ⟨s.pump, s.tank, s.line, rfl⟩
    · split
      · obtain ⟨u, k, l, h⟩ := arbiter_eq { s with pump := { s.pump with queue := s.pump.queue ++ [e] } }
        exact ⟨u, k, l, h⟩
      · exact ⟨s.pump, s.tank, s.line, rfl⟩

/-- A stop request changes the pumps and the actuator command queue (R96). -/
theorem stopRequest_eq (t : Nat) : ∃ u l, stopRequest t s = { s with pump := u, line := l } := by
  unfold stopRequest
  split
  · exact ⟨_, s.line, rfl⟩
  · split
    · unfold stopPump
      split <;> first | exact enterStage_eq s _ _ _ | exact ⟨s.pump, s.line, rfl⟩
    · exact ⟨s.pump, s.line, rfl⟩

/-- Stop requests for several tanks change what one changes (R117). -/
theorem stopAll_eq (l : List PlanEntry) : ∃ u q, stopAll l s = { s with pump := u, line := q } := by
  refine foldl_keeps (fun s t => ∃ u q, t = { s with pump := u, line := q }) (fun s => ⟨s.pump, s.line, rfl⟩) ?_ _
    (fun u e => stopRequest_eq u e.tank) l s
  rintro s t v ⟨_, _, rfl⟩ ⟨u, q, rfl⟩
  exact ⟨u, q, rfl⟩

/-- Writing service fields changes the tanks alone (R34, R114). -/
theorem writeService_eq (l : List PlanEntry) : ∃ k, writeService l s = { s with tank := k } := by
  refine foldl_keeps (fun s t => ∃ k, t = { s with tank := k }) (fun s => ⟨s.tank, rfl⟩) ?_ _ (fun _ _ => ⟨_, rfl⟩) l s
  rintro s t v ⟨_, rfl⟩ ⟨k, rfl⟩
  exact ⟨k, rfl⟩

/-- Clearing service fields changes the tanks alone (R34, R114). -/
theorem clearService_eq (l : List PlanEntry) : ∃ k, clearService l s = { s with tank := k } := by
  refine foldl_keeps (fun s t => ∃ k, t = { s with tank := k }) (fun s => ⟨s.tank, rfl⟩) ?_ _ (fun _ _ => ⟨_, rfl⟩) l s
  rintro s t v ⟨_, rfl⟩ ⟨k, rfl⟩
  exact ⟨k, rfl⟩

/-- A written context record changes the plans alone. -/
theorem setCtx_eq (c : Ctx) (r : CtxRec) : setCtx c r s = { s with plan := (setCtx c r s).plan } := by cases c <;> rfl

/-- The judgement of R112 changes the asked mark and the STEP flag. -/
theorem judgeRequest_eq : ∃ p f, judgeRequest s = { s with plan := p, hull := { s.hull with stepFlag := f } } := by
  unfold judgeRequest
  split
  · exact ⟨_, _, setCtx_eq _ _ _⟩
  · exact ⟨s.plan, s.hull.stepFlag, rfl⟩

/-- A step that becomes GATED changes the plans, the service fields and the STEP flag (R111, R112). -/
theorem gateStep_eq :
    ∃ p k f, gateStep s = { s with plan := p, tank := k, hull := { s.hull with stepFlag := f } } := by
  unfold gateStep
  dsimp only
  rw [setCtx_eq]
  generalize (setCtx _ _ s).plan = q
  obtain ⟨k, hk⟩ := clearService_eq { s with plan := q } (stepTanks (designatedRec s) (designatedRec s).index)
  obtain ⟨p, f, h⟩ := judgeRequest_eq { s with plan := q, tank := k }
  exact ⟨p, k, f, hk ▸ h⟩

/-- The advance of the index changes what the gating of the next step changes (R116). -/
theorem advance_eq : ∃ p k f, advance s = { s with plan := p, tank := k, hull := { s.hull with stepFlag := f } } := by
  unfold advance
  dsimp only
  split
  · rename_i j _
    split
    · obtain ⟨p, k, f, h⟩ := gateStep_eq { s with
        plan := (setCtx s.plan.designated { designatedRec s with index := j } s).plan }
      exact ⟨p, k, f, by rw [setCtx_eq, h]⟩
    · exact ⟨_, s.tank, s.hull.stepFlag, setCtx_eq _ _ _⟩
  · exact ⟨_, s.tank, s.hull.stepFlag, setCtx_eq _ _ _⟩

/-- The judgement of R115 changes what an advance changes, and the auto-exchange bits (R138). -/
theorem judgeDone_eq : ∃ p k f, judgeDone s = { s with plan := p, tank := k, hull := { s.hull with stepFlag := f } } := by
  unfold judgeDone
  split
  · dsimp only
    rw [setCtx_eq]
    generalize (setCtx _ _ s).plan = q
    obtain ⟨k, hk⟩ := clearService_eq { s with plan := q } (currentTanks s)
    obtain ⟨q', hb⟩ : ∃ q', boundary { s with plan := q, tank := k } = { s with plan := q', tank := k } := by
      unfold boundary
      split <;> exact ⟨_, rfl⟩
    obtain ⟨p, k', f, h⟩ := advance_eq { s with plan := q', tank := k }
    exact ⟨p, k', f, by rw [hk, hb, h]⟩
  · exact ⟨s.plan, s.tank, s.hull.stepFlag, rfl⟩

/-- The start of the incoming context changes what the gating of a step changes (R136). -/
theorem startIncoming_eq :
    ∃ p k f, startIncoming s = { s with plan := p, tank := k, hull := { s.hull with stepFlag := f } } := by
  have gated (q : PlanState) :
      ∃ p k f, gateStep { s with plan := q } = { s with plan := p, tank := k, hull := { s.hull with stepFlag := f } } := by
    obtain ⟨p, k, f, h⟩ := gateStep_eq { s with plan := q }
    exact ⟨p, k, f, h⟩
  unfold startIncoming startLoaded
  dsimp only
  split
  · split
    · rw [setCtx_eq]
      exact gated _
    · exact ⟨_, s.tank, s.hull.stepFlag, setCtx_eq _ _ _⟩
  · rw [setCtx_eq]
    split
    · exact gated _
    · split
      · obtain ⟨k, h⟩ := writeService_eq { s with plan := (setCtx _ _ s).plan } (currentTanks _)
        exact ⟨_, k, s.hull.stepFlag, h⟩
      · exact ⟨_, s.tank, s.hull.stepFlag, rfl⟩
  · exact ⟨s.plan, s.tank, s.hull.stepFlag, rfl⟩

/-- The hold of a RUNNING step changes the plans, the pumps and the actuator command queue (R117). -/
theorem holdStep_eq (why : HoldReason) : ∃ p u l, holdStep why s = { s with plan := p, pump := u, line := l } := by
  unfold holdStep
  split
  · dsimp only
    rw [setCtx_eq]
    obtain ⟨u, l, h⟩ := stopAll_eq { s with plan := (setCtx _ _ s).plan }
      (stepTanks (designatedRec s) (designatedRec s).index)
    exact ⟨_, u, l, h⟩
  · exact ⟨s.plan, s.pump, s.line, rfl⟩

/-- A hold that the Pump Unit asks for changes what a hold changes (R119). -/
theorem askHold_eq (job : Option (Ctx × Nat)) (why : HoldReason) :
    ∃ p u l, askHold job why s = { s with plan := p, pump := u, line := l } := by
  unfold askHold
  split
  · split
    · exact holdStep_eq s why
    · exact ⟨s.plan, s.pump, s.line, rfl⟩
  · exact ⟨s.plan, s.pump, s.line, rfl⟩

end Sys2Proof.Machine
end

