-- ==== Sys2Proof/Laws/Close.lean ====
section
/-! SUPPORT. What the Pump Unit's work at a cycle close can change, and that it leaves the record of the close alone, so
that one pump's count finds the steps taken ahead as the pump before it did; and what the stored tables and the code fields
of a frame are. -/

namespace Sys2Proof.Machine

open Sys2Proof

/-- The blocks that the events of a service can change: pumps, tanks, plans, engine flags, reports, the line, faults. -/
def ServiceChanges (s t : State) : Prop :=
  ∃ p k c h r l f, t = { s with pump := p, tank := k, plan := c, hull := h, report := r, line := l, fault := f }

theorem ServiceChanges.refl (s : State) : ServiceChanges s s :=
  ⟨s.pump, s.tank, s.plan, s.hull, s.report, s.line, s.fault, rfl⟩

theorem ServiceChanges.trans {s t u : State} : ServiceChanges s t → ServiceChanges t u → ServiceChanges s u := by
  rintro ⟨p, k, c, h, r, l, f, rfl⟩ ⟨p', k', c', h', r', l', f', rfl⟩
  exact ⟨p', k', c', h', r', l', f', rfl⟩

theorem ServiceChanges.close {s t : State} : ServiceChanges s t → t.close = s.close := by
  rintro ⟨_, _, _, _, _, _, _, rfl⟩
  rfl

variable (s : State)

theorem setPump_service (p : Nat) (r : PumpRec) : ServiceChanges s (setPump p r s) :=
  ⟨_, s.tank, s.plan, s.hull, s.report, s.line, s.fault, rfl⟩

theorem tellActive_service (code : FaultCode) (x : Nat) : ServiceChanges s (tellActive code x s) := by
  obtain ⟨q, l, h⟩ := tellActive_eq s code x
  exact ⟨s.pump, s.tank, s.plan, s.hull, q, s.line, l, h⟩

theorem post_service (r : Report) : ServiceChanges s (post r s) := by
  obtain ⟨l, h⟩ := post_eq s r
  exact ⟨s.pump, s.tank, s.plan, s.hull, _, s.line, l, h⟩

theorem askHold_service (job : Option (Ctx × Nat)) (why : HoldReason) : ServiceChanges s (askHold job why s) := by
  obtain ⟨p, u, l, h⟩ := askHold_eq s job why
  exact ⟨u, s.tank, p, s.hull, s.report, l, s.fault, h⟩

theorem stopPump_service (p t : Nat) : ServiceChanges s (stopPump p t s) := by
  have enters (g : PumpStage) : ServiceChanges s (enterStage p t g s) := by
    obtain ⟨u, l, h⟩ := enterStage_eq s p t g
    exact ⟨u, s.tank, s.plan, s.hull, s.report, l, s.fault, h⟩
  unfold stopPump
  split
  exacts [enters _, enters _, enters _, .refl s]

theorem arbiter_service : ServiceChanges s (arbiter s) := by
  obtain ⟨u, k, l, h⟩ := arbiter_eq s
  exact ⟨u, k, s.plan, s.hull, s.report, l, s.fault, h⟩

theorem requestPump_service (e : ReqEntry) : ServiceChanges s (requestPump e s) := by
  obtain ⟨u, k, l, h⟩ := requestPump_eq s e
  exact ⟨u, k, s.plan, s.hull, s.report, l, s.fault, h⟩

theorem unpair_service (p t : Nat) (g : PumpStage) (clean : Bool) : ServiceChanges s (unpair p t g clean s) :=
  ⟨_, _, s.plan, s.hull, s.report, s.line, s.fault, rfl⟩

theorem postCommand_service (w : Option Nat) (o : Option OutputRef) (c : ActCommand) :
    ServiceChanges s (postCommand w o c s) := by
  obtain ⟨u, l, h⟩ := postCommand_eq s w o c
  exact ⟨u, s.tank, s.plan, s.hull, s.report, l, s.fault, h⟩

/-- The completion of an exchange (R134 to R136). -/
theorem completeExchange_service (x : ExchangeRec) : ServiceChanges s (completeExchange x s) := by
  unfold completeExchange
  dsimp only
  rw [setCtx_eq]
  obtain ⟨k, h⟩ := clearService_eq { s with plan := (setCtx x.outgoing _ s).plan }
    (stepTanks (ctxRec s x.outgoing) (ctxRec s x.outgoing).index)
  rw [h]
  obtain ⟨p, k', f, h'⟩ := startIncoming_eq
    { s with
      plan := { (setCtx x.outgoing (outgoingAfter x (ctxRec s x.outgoing)) s).plan with
        designated := otherCtx x.outgoing, exchange := none }
      tank := k
      report := { s.report with progressCount := 0 } }
  exact ⟨s.pump, k', p, _, _, s.line, s.fault, h'⟩

/-- A release as the exchange in flight takes it (R134). -/
theorem exchangeRelease_service (p : Nat) (clean : Bool) : ServiceChanges s (exchangeRelease p clean s) := by
  have noted (x : ExchangeRec) : ServiceChanges s { s with plan := { s.plan with exchange := some x } } :=
    ⟨s.pump, s.tank, _, s.hull, s.report, s.line, s.fault, rfl⟩
  unfold exchangeRelease
  split
  · exact .refl s
  · dsimp only
    split
    · split
      · exact (noted _).trans (completeExchange_service _ _)
      · exact noted _
    · exact .refl s

/-- The Plan Unit told of a release (R86). -/
theorem planRelease_service (p t : Nat) (clean : Bool) : ServiceChanges s (planRelease p t clean s) := by
  have h := exchangeRelease_service s p clean
  unfold planRelease
  dsimp only
  split
  · obtain ⟨c, k, f, hd⟩ := judgeDone_eq (exchangeRelease p clean s)
    obtain ⟨c', f', hj⟩ := judgeRequest_eq (judgeDone (exchangeRelease p clean s))
    refine h.trans (.trans (t := judgeDone (exchangeRelease p clean s)) ?_ ?_)
    · exact ⟨_, k, c, _, _, _, _, hd⟩
    · exact ⟨_, _, c', _, _, _, _, hj⟩
  · exact h

theorem openingFault_service (p t : Nat) : ServiceChanges s (openingFault p t s) :=
  (setPump_service s p _).trans
    ((tellActive_service _ _ _).trans ((askHold_service _ _ _).trans (stopPump_service _ p t)))

theorem closingFault_service (p t : Nat) : ServiceChanges s (closingFault p t s) :=
  (setPump_service s p _).trans ((tellActive_service _ _ _).trans
    ((unpair_service _ p t _ _).trans ((planRelease_service _ p t _).trans (arbiter_service _))))

/-- A failure of a pump (R97). -/
theorem failPump_service (p t : Nat) : ServiceChanges s (failPump p t s) := by
  have h : ServiceChanges s (planRelease p t false (unpair p t .failed false
      (postCommand none (valveOutput (tellActive .pumpFailed p (markTrouble p s)) t) .closeValve
        (postCommand none (starterOutput (tellActive .pumpFailed p (markTrouble p s)) p) .stop
          (tellActive .pumpFailed p (markTrouble p s)))))) :=
    (setPump_service s p _).trans ((tellActive_service _ _ _).trans ((postCommand_service _ _ _ _).trans
      ((postCommand_service _ _ _ _).trans ((unpair_service _ p t _ _).trans (planRelease_service _ p t _)))))
  unfold failPump
  dsimp only
  split
  · split
    · exact h.trans (requestPump_service _ _)
    · exact h
  · exact h

/-- The flow check (R99). -/
theorem flowCheck_service (p t : Nat) : ServiceChanges s (flowCheck p t s) := by
  have begins : ServiceChanges s (beginWindow p t s) := setPump_service s p _
  unfold flowCheck
  dsimp only
  repeat' split
  all_goals first | exact begins | exact askHold_service s _ _

theorem counterExpires_service (p t : Nat) : ServiceChanges s (counterExpires p t s) := by
  unfold counterExpires
  split
  exacts [openingFault_service s p t, closingFault_service s p t, failPump_service s p t, failPump_service s p t,
    flowCheck_service s p t, .refl s]

/-- One pump's phase counter at a cycle close changes what the events of a service change (R89, R99). -/
theorem pumpCount_service (p : Nat) : ServiceChanges s (pumpCount p s) := by
  unfold pumpCount
  dsimp only
  split
  · split
    · split
      · exact (setPump_service _ _ _).trans (counterExpires_service _ _ _)
      · exact setPump_service _ _ _
    · exact setPump_service _ _ _
  · exact .refl s

/-- A pump's count leaves the steps taken ahead of this close as they were, so that each pump is judged by them. -/
@[simp] theorem pumpCount_close (p : Nat) : (pumpCount p s).close = s.close := (pumpCount_service s p).close

/-- A code field of two codes holds 0 or 1 where it is read at all (R194). -/
theorem needCode_le {b : List Byte} {off n : Nat} (h : needCode b off = some n) : n ≤ 1 := by
  have := Option.filter_eq_some_iff.mp h
  simpa using this.2

/-- Outside SELF-CHECK the stored tables are those in use (R2, R18). -/
theorem storedTables_graded (h : s.start.phase ≠ .selfCheck) : storedTables s = s.tables := by simp [storedTables, h]

end Sys2Proof.Machine
end

