-- ==== Sys2Proof/Laws/Contents.lean ====
section
/-! SUPPORT. What a hand-on to a tank can change: the tanks, and with a changed disagreement the Report Queue and the Fault
List. -/

namespace Sys2Proof.Machine

open Sys2Proof

variable (s : State)

/-- A conversion begun or put to wait changes the tanks alone (R27). -/
theorem beginConversion_eq (t : Nat) (q : ConvRequest) : ∃ k, beginConversion t q s = { s with tank := k } := by
  unfold beginConversion
  dsimp only
  split <;> exact ⟨_, rfl⟩

/-- The class written at once changes the tanks alone (R30). -/
theorem gradeAtOnce_eq (t : Nat) : ∃ k, gradeAtOnce t s = { s with tank := k } := ⟨_, rfl⟩

/-- The class written at once is the one that R30 grades, and a conversion in flight stays. -/
theorem gradeAtOnce_self (t : Nat) (h : t < 64) :
    tankRec (gradeAtOnce t s) t = { tankRec s t with cls := gradeTank s t (tankRec s t) } := by
  simp [gradeAtOnce, tankRec_setTank, h]

/-- A judged disagreement changes the tanks, the Report Queue and the Fault List (R31). -/
theorem applyDisagreement_eq (t : Nat) :
    ∃ k q l, applyDisagreement t s = { s with tank := k, report := q, fault := l } := by
  unfold applyDisagreement
  dsimp only
  obtain ⟨q, l, h⟩ := tellChange_eq (setTank t { tankRec s t with disagreement := judgeDisagreement s t (tankRec s t) } s)
    .gaugeDisagree t (tankRec s t).disagreement (judgeDisagreement s t (tankRec s t))
  exact ⟨_, q, l, h⟩

/-- A value handed on changes the tanks, the Report Queue and the Fault List (R28 to R31). -/
theorem handValue_eq (c t : Nat) (role : Role) (snd : Nat) (cls : SampleClass) :
    ∃ k q l, handValue c t role snd cls s = { s with tank := k, report := q, fault := l } := by
  unfold handValue
  split
  · dsimp only
    obtain ⟨k, q, l, h⟩ := applyDisagreement_eq (setTank t
      { (tankRec s t).setView role ⟨.fresh, some snd, some cls⟩ with
        source := (sourceOf s t ((tankRec s t).setView role ⟨.fresh, some snd, some cls⟩)).getD
          ((tankRec s t).setView role ⟨.fresh, some snd, some cls⟩).source } s) t
    rw [h]
    split
    · obtain ⟨k', h'⟩ := beginConversion_eq { setTank t _ s with tank := k, report := q, fault := l } t
        ⟨.sample, role, snd⟩
      exact ⟨k', q, l, h'⟩
    · exact ⟨_, q, l, rfl⟩
  · exact ⟨s.tank, s.report, s.fault, rfl⟩

end Sys2Proof.Machine
end

