-- ==== Sys2Proof/Laws/Orders.lean ====
section
/-! SUPPORT. What taking an order can do: it is ignored in a reset, discarded and counted with 8 places held, refused BUSY,
or handed to its owner, whose answer takes a place. -/

namespace Sys2Proof.Machine

open Sys2Proof

variable (s : State) (tag order : Nat) (h : State → State × Answer)

/-- A frame that is taken is handed on and its answer placed. -/
theorem takeFrame_taken (hr : s.start.inReset = none) (hp : s.console.places.length < 8) :
    takeFrame tag order h s = addPlace tag order (h (frameEnd s)).2 (h (frameEnd s)).1 := by
  have : ¬ Config.replyPlaces ≤ s.console.places.length := Nat.not_le.mpr hp
  simp [takeFrame, inReset, hr, this]

/-- In a reset no frame is taken (log entry 8). -/
theorem takeFrame_inReset (hr : s.start.inReset ≠ none) : takeFrame tag order h s = s := by
  simp [takeFrame, inReset, Option.isSome_iff_ne_none.mpr hr]

/-- With 8 places held a frame is discarded and counted (R173). -/
theorem takeFrame_full (hr : s.start.inReset = none) (hp : 8 ≤ s.console.places.length) :
    takeFrame tag order h s =
      { frameEnd s with console := { (frameEnd s).console with
          discardedOrders := bump 65535 s.console.discardedOrders } } := by
  have : Config.replyPlaces ≤ s.console.places.length := hp
  simp [takeFrame, inReset, hr, this, frameEnd]

/-- An order that is taken is handed to its owner. -/
theorem takeOrder_taken (hr : s.start.inReset = none) (hp : s.console.places.length < 8) (hw : s.start.write = none)
    (hq : s.console.resetPending = false) :
    takeOrder tag order h s = addPlace tag order (h (frameEnd s)).2 (h (frameEnd s)).1 := by
  rw [takeOrder, takeFrame_taken _ _ _ _ hr hp]
  simp [writing, hw, frameEnd, hq]

/-- An order in a SETUP-END write, or with a RESET pending, is answered BUSY (R178, R193). -/
theorem takeOrder_busy (hr : s.start.inReset = none) (hp : s.console.places.length < 8)
    (hb : s.start.write ≠ none ∨ s.console.resetPending = true) :
    takeOrder tag order h s = addPlace tag order (.now .busy .none) (frameEnd s) := by
  rw [takeOrder, takeFrame_taken _ _ _ _ hr hp]
  have : (writing (frameEnd s) || (frameEnd s).console.resetPending) = true := by
    rcases hb with hb | hb
    · simp [writing, Option.isSome_iff_ne_none.mpr hb]
    · simp [frameEnd, hb]
  simp [this, refuse]

/-- A numeric setting is clamped: the value written is the nearest in range (R176). -/
theorem clampInt_eq (lo hi v : Int) (hle : lo ≤ hi) : clampInt lo hi v = max lo (min hi v) := by
  unfold clampInt
  split
  · omega
  · split <;> omega

end Sys2Proof.Machine
end

