-- ==== Sys2Proof/Laws/Step.lean ====
section
/-! SUPPORT. What a step can do: it runs the command at the front of the queue, or idles. -/

namespace Sys2Proof.Machine

open Sys2Proof

/-- With nothing waiting the part idles (log entry 1). -/
theorem step_idle (s : State) (h : s.pending = []) : step s = .next s := by simp [step, h]

/-- With a command in front, a step is exec of it with the queue's rest. -/
theorem step_front (s : State) (c : Instr) (rest : List Instr) (h : s.pending = c :: rest) :
    step s = exec c { s with pending := rest } := by simp [step, h]

/-- A property that exec keeps, and that does not look at the queue, is kept by every step. -/
theorem step_keeps (P : State → Prop) (queue : ∀ s q, P s → P { s with pending := q })
    (keeps : ∀ i s t, exec i s = .next t → P s → P t) (s t : State) (h : step s = .next t) (hp : P s) : P t := by
  unfold step at h
  split at h
  · cases h
    exact hp
  · exact keeps _ _ _ h (queue s _ hp)

end Sys2Proof.Machine
end

