-- ==== Sys2Proof/WellFormed.lean ====
section
/-! DEFINITION. When a command is well formed: every operand lies within the width of its field in R194, or names a
part of the block that exists. Meanings are total and do not ask for it: an ill-formed command stands for no event of
the part. -/

namespace Sys2Proof

/-- A field of one byte. -/
def fits1 (n : Nat) : Bool := n < 256

/-- A field of two bytes. -/
def fits2 (n : Nat) : Bool := n < 65536

/-- A field of four bytes. -/
def fits4 (n : Nat) : Bool := n < 4294967296

/-- A signed field of four bytes that is not its absent marker (R194). -/
def fitsInt4 (v : Int) : Bool := -2147483648 < v && v < 2147483648

/-- A body that is badly laid out, or whose fields pass. -/
def Body.ok {α : Type} (p : α → Bool) : Body α → Bool
  | .fields a => p a
  | .badLayout => true

/-- A TABLE-LOAD part: 1 to 240 table bytes (R194). -/
def TablePart.ok (p : TablePart) : Bool :=
  fits1 p.code && fits1 p.part && 1 ≤ p.bytes.length && p.bytes.length ≤ 240 && fits2 p.check

/-- A TABLE-READ. -/
def TableReadArgs.ok (a : TableReadArgs) : Bool := fits1 a.code && fits1 a.part

/-- A setting with a tank or hold. -/
def IndexedValue.ok (a : IndexedValue) : Bool := fits1 a.index && fitsInt4 a.value

/-- A trim window. -/
def TrimPair.ok (w : TrimPair) : Bool := fitsInt4 w.min && fitsInt4 w.max

/-- A report window. -/
def Window.ok (w : Window) : Bool := fits1 w.first && fits1 w.count

/-- A set of report windows that a frame can carry: 3 + 2w argument bytes within 248 (R171, R194). -/
def windowsFit (l : List Window) : Bool := l.length ≤ 122 && l.all Window.ok

/-- A HOLD-SET. -/
def HoldSetArgs.ok (a : HoldSetArgs) : Bool := fits1 a.hold && fits4 a.mass

/-- A substitution. -/
def Substitution.ok (q : Substitution) : Bool := fits1 q.item && fits4 q.mass

/-- The substitutions that a PROJECT can carry: 1 + 5n argument bytes within 248 (R171, R194). -/
def substitutionsFit (l : List Substitution) : Bool := l.length ≤ 49 && l.all Substitution.ok

/-- A tank entry of a PLAN-LOAD part; no frame carries another action code than 0 and 1 (R194; log entry 14). -/
def RawEntry.ok (e : RawEntry) : Bool := fits1 e.tank && e.action ≤ 1 && fits4 e.target

/-- A hold gate; hold 0xFF would be no gate (R194). -/
def gateFits : Option HoldGate → Bool
  | none => true
  | some g => g.hold < 255 && fits4 g.minMass

/-- A step of a PLAN-LOAD part; no frame carries another margin code than 0 and 1 (R194; log entry 14). -/
def RawStep.ok (r : RawStep) : Bool := r.margin ≤ 1 && gateFits r.gate && r.entries.all RawEntry.ok

/-- A PLAN-LOAD part: at most 6 steps, and header fields in a first part alone (R107, R194). -/
def PlanPart.ok (p : PlanPart) : Bool :=
  fits1 p.ctx && p.steps.length ≤ 6 && p.steps.all RawStep.ok && (p.period.all fits2) && (p.share.all fits1) &&
    (p.first || (p.period.isNone && p.share.isNone))

/-- A SKIP-STEP. -/
def SkipArgs.ok (a : SkipArgs) : Bool := fits1 a.ctx && fits1 a.step

/-- A FAULT-CLEAR. -/
def FaultArgs.ok (a : FaultArgs) : Bool := fits1 a.code && fits1 a.subject

/-- A POUR. -/
def PourFrame.ok (f : PourFrame) : Bool := fits1 f.hold && fits1 f.run && fits2 f.seq && fits2 f.quantity

/-- A FORWARD: 1 to 32 maintenance bytes (R194). -/
def ForwardArgs.ok (f : ForwardArgs) : Bool := fits1 f.node && 1 ≤ f.bytes.length && f.bytes.length ≤ 32

/-- An order that carries one value of four bytes. -/
def valueOk (tag : Nat) (b : Body Int) : Bool := fits1 tag && b.ok fitsInt4

/-- An order that carries nothing. -/
def bareOk (tag : Nat) (_ : Body Unit) : Bool := fits1 tag

/-- An order that names a context. -/
def ctxOk (tag : Nat) (b : Body Nat) : Bool := fits1 tag && b.ok fits1

/-- Whether a command is well formed. -/
def Instr.wellFormed : Instr → Bool
  | .setup tag b => bareOk tag b
  | .setupEnd tag b => bareOk tag b
  | .setupEndWriteCompletion => true
  | .tableLoad tag b => fits1 tag && b.ok TablePart.ok
  | .tableReadStore tag b => fits1 tag && b.ok TableReadArgs.ok
  | .tableReadWorking tag b => fits1 tag && b.ok TableReadArgs.ok
  | .voyageSetStaleLimit tag b => valueOk tag b
  | .voyageSetDensity tag b => fits1 tag && b.ok IndexedValue.ok
  | .voyageSetAllowance tag b => fits1 tag && b.ok IndexedValue.ok
  | .voyageSetLimitSet tag b => valueOk tag b
  | .voyageSetWarnPerMille tag b => valueOk tag b
  | .voyageSetMaximumDraught tag b => valueOk tag b
  | .voyageSetDraughtMargin tag b => valueOk tag b
  | .voyageSetTrimWindow tag b => fits1 tag && b.ok TrimPair.ok
  | .voyageSetDraughtMismatchTolerance tag b => valueOk tag b
  | .voyageSetValveTravelTimeout tag b => valueOk tag b
  | .voyageSetPumpStartTimeout tag b => valueOk tag b
  | .voyageSetFlowWindow tag b => valueOk tag b
  | .voyageSetMinimumFlow tag b => valueOk tag b
  | .voyageSetReportWindows tag b => fits1 tag && b.ok windowsFit
  | .voyageSetConditionPeriod tag b => valueOk tag b
  | .voyageSetProgressPeriod tag b => valueOk tag b
  | .voyageSetLinePeriod tag b => valueOk tag b
  | .voyageSetRelay tag b => valueOk tag b
  -- the codes 1 to 18 name settings (R194)
  | .voyageSetUnknownSetting tag setting => fits1 tag && fits1 setting && (setting == 0 || 18 < setting)
  | .holdSet tag b => fits1 tag && b.ok HoldSetArgs.ok
  | .project tag b => fits1 tag && b.ok substitutionsFit
  | .planLoad tag b => fits1 tag && b.ok PlanPart.ok
  | .planStart tag b => ctxOk tag b
  | .planPause tag b => ctxOk tag b
  | .resume tag b => ctxOk tag b
  | .skipStep tag b => fits1 tag && b.ok SkipArgs.ok
  | .planAbort tag b => ctxOk tag b
  | .confirm tag b => bareOk tag b
  | .exchange tag b => bareOk tag b
  | .autoExchangeOn tag b => bareOk tag b
  -- the argument 1 is ON, which is the row above
  | .autoExchangeOff tag b => fits1 tag && b.ok (fun n => fits1 n && n != 1)
  | .faultClear tag b => fits1 tag && b.ok FaultArgs.ok
  | .status tag b => bareOk tag b
  | .reset tag b => bareOk tag b
  -- the codes 1 to 19 name orders (R194)
  | .unknownOrder tag code => fits1 tag && code.ok (fun c => fits1 c && (c == 0 || 19 < c))
  | .pour b => b.ok PourFrame.ok
  | .forward tag b => fits1 tag && b.ok ForwardArgs.ok
  | .inboundFrameDiscard _ => true
  | .lineCycleMark => true
  | .commandSlot => true
  | .assigned _ => true
  | .answerFrame slot _ _ => 1 ≤ slot && slot ≤ Config.nodes
  | .frameOutsideSlot _ => true
  | .conversionEnd tank => tank < Config.tanks
  | .cycleClose _ => true
  | .channelStale channel => channel < Config.channels
  | .nodeSilent address => 1 ≤ address && address ≤ Config.nodes
  | .lineBreak => true
  | .enumerationAddressingStop => true
  | .setupSafeSweep => true
  | .valveTravelTimeout pump => pump < Config.pumps
  | .pumpStartTimeout pump => pump < Config.pumps
  | .flowWindowEnd pump => pump < Config.pumps
  | .confirmLate => true
  | .conditionPeriod => true
  | .progressPeriod => true
  | .evaluationBegin => true
  | .currentCompletion _ => true
  | .stepCompletion => true
  | .orderCompletion => true
  | .transmitterFree => true
  | .transmissionComplete => true
  | .orderedReset => true
  | .supplyLowBegin => true
  | .supplyLowEnd => true
  | .supplyReset _ => true
  | .retentionLoss => true
  | .powerOnReset _ => true
  | .resetEnd _ => true
  | .selfCheckEnd misreads => misreads.length ≤ Config.tableCodes && misreads.all (fun n => n ≤ 3)
  | .startByte => true

end Sys2Proof
end

