-- ==== Sys2Proof/Tests/Slice0.lean ====
section
/-! SUPPORT. The model's own tests: ill-formed commands that the checks refuse, worked examples of spec/ on single
commands, and for each statement with hypotheses a witness that meets them. Expected values come from the tables and
worked examples of spec/, named at each test. -/

namespace Sys2Proof.Tests

set_option Elab.async false

open Sys2Proof Sys2Proof.Machine Sys2Proof.Claims

/-! ## Ill-formed commands are refused -/

theorem test_wf_tag : (Instr.setup 256 (.fields ())).wellFormed = false := by decide
theorem test_wf_table_part : (Instr.tableLoad 1 (.fields ⟨0, 0, false, [], 0⟩)).wellFormed = false := by decide
theorem test_wf_table_part_long :
    (Instr.tableLoad 1 (.fields ⟨0, 0, false, List.replicate 241 0, 0⟩)).wellFormed = false := by decide +kernel
theorem test_wf_table_check : (Instr.tableLoad 1 (.fields ⟨0, 0, true, [1], 65536⟩)).wellFormed = false := by decide
theorem test_wf_table_read : (Instr.tableReadStore 1 (.fields ⟨0, 256⟩)).wellFormed = false := by decide
theorem test_wf_value : (Instr.voyageSetStaleLimit 1 (.fields (-2147483648))).wellFormed = false := by decide
theorem test_wf_indexed : (Instr.voyageSetDensity 1 (.fields ⟨256, 1025⟩)).wellFormed = false := by decide
theorem test_wf_trim : (Instr.voyageSetTrimWindow 1 (.fields ⟨0, 2147483648⟩)).wellFormed = false := by decide
theorem test_wf_window : (Instr.voyageSetReportWindows 1 (.fields [⟨256, 1⟩])).wellFormed = false := by decide
theorem test_wf_windows :
    (Instr.voyageSetReportWindows 1 (.fields (List.replicate 123 ⟨0, 1⟩))).wellFormed = false := by decide +kernel
theorem test_wf_unknown_setting : (Instr.voyageSetUnknownSetting 1 18).wellFormed = false := by decide
theorem test_wf_hold_set : (Instr.holdSet 1 (.fields ⟨0, 4294967296⟩)).wellFormed = false := by decide
theorem test_wf_substitution : (Instr.project 1 (.fields [⟨256, 0⟩])).wellFormed = false := by decide
theorem test_wf_project : (Instr.project 1 (.fields (List.replicate 50 ⟨0, 0⟩))).wellFormed = false := by decide
theorem test_wf_plan_steps :
    (Instr.planLoad 1 (.fields ⟨0, true, true, none, none, List.replicate 7 ⟨0, none, []⟩⟩)).wellFormed = false := by
  decide
theorem test_wf_plan_header :
    (Instr.planLoad 1 (.fields ⟨0, false, true, some 150, none, []⟩)).wellFormed = false := by decide
theorem test_wf_plan_gate :
    (Instr.planLoad 1 (.fields ⟨0, true, true, none, none, [⟨0, some ⟨255, 0⟩, []⟩]⟩)).wellFormed = false := by decide
theorem test_wf_plan_entry :
    (Instr.planLoad 1 (.fields ⟨0, true, true, none, none, [⟨0, none, [⟨256, 0, 0⟩]⟩]⟩)).wellFormed = false := by decide
theorem test_wf_plan_codes :
    (Instr.planLoad 1 (.fields ⟨0, true, true, none, none, [⟨0, none, [⟨0, 2, 0⟩]⟩]⟩)).wellFormed = false ∧
      (Instr.planLoad 1 (.fields ⟨0, true, true, none, none, [⟨2, none, []⟩]⟩)).wellFormed = false := by decide
theorem test_wf_context : (Instr.planStart 1 (.fields 256)).wellFormed = false := by decide
theorem test_wf_skip : (Instr.skipStep 1 (.fields ⟨0, 256⟩)).wellFormed = false := by decide
theorem test_wf_auto_off : (Instr.autoExchangeOff 1 (.fields 1)).wellFormed = false := by decide
theorem test_wf_fault_clear : (Instr.faultClear 1 (.fields ⟨256, 0⟩)).wellFormed = false := by decide
theorem test_wf_unknown_order : (Instr.unknownOrder 1 (.fields 19)).wellFormed = false := by decide
theorem test_wf_pour : (Instr.pour (.fields ⟨0, 0, 65536, 0, false⟩)).wellFormed = false := by decide
theorem test_wf_forward : (Instr.forward 1 (.fields ⟨1, []⟩)).wellFormed = false := by decide
theorem test_wf_slot : (Instr.answerFrame 31 [] []).wellFormed = false := by decide
theorem test_wf_tank : (Instr.conversionEnd 64).wellFormed = false := by decide
theorem test_wf_channel : (Instr.channelStale 96).wellFormed = false := by decide
theorem test_wf_node : (Instr.nodeSilent 0).wellFormed = false := by decide
theorem test_wf_pump : (Instr.flowWindowEnd 4).wellFormed = false := by decide
theorem test_wf_misreads : (Instr.selfCheckEnd [4]).wellFormed = false := by decide
theorem test_wf_accepts : (Instr.forward 255 (.fields ⟨30, List.replicate 32 7⟩)).wellFormed = true := by decide

/-! ## Check computations and frames (R194, R195) -/

/-- The nine bytes 0x31 to 0x39 (R195's table). -/
def nine : List Byte := [0x31, 0x32, 0x33, 0x34, 0x35, 0x36, 0x37, 0x38, 0x39]

theorem test_crc8 : crc8 nine = 0xF4 ∧ crc8 [] = 0x00 ∧ crc8 [0x01] = 0x07 ∧ crc8 [0x01, 0x00, 0x00] = 0x6B := by
  decide +kernel
theorem test_crc16 : crc16 nine = 0x29B1 ∧ crc16 [] = 0xFFFF := by decide +kernel
theorem test_cycle_mark : markFrame 0 = [0x01, 0x00, 0x00, 0x6B] := by decide +kernel

/-- The bytes after a start byte of a frame with the given kind and body. -/
def inbound (kind : Byte) (body : List Byte) : List Byte :=
  let covered := kind :: BitVec.ofNat 8 body.length :: body
  covered ++ be 2 (crc16 covered).toNat

-- bodies written from the layouts of R194
theorem test_frame_status : commandOfFrame (inbound 0x10 [7, 18]) = .status 7 (.fields ()) := by decide +kernel
theorem test_frame_hold_set :
    commandOfFrame (inbound 0x10 [9, 6, 4, 0, 0, 0x2B, 0x2A]) = .holdSet 9 (.fields ⟨4, 11050⟩) := by
  decide +kernel
theorem test_frame_pour :
    commandOfFrame (inbound 0x11 [4, 7, 0, 100, 0x08, 0x98, 1]) = .pour (.fields ⟨4, 7, 100, 2200, true⟩) := by
  decide +kernel
theorem test_frame_forward :
    commandOfFrame (inbound 0x12 [3, 30, 1, 2]) = .forward 3 (.fields ⟨30, [1, 2]⟩) := by decide +kernel
theorem test_frame_negative :
    commandOfFrame (inbound 0x10 [1, 5, 1, 255, 255, 255, 255, 255]) = .voyageSetStaleLimit 1 (.fields (-1)) := by
  decide +kernel
/-- A one-step PLAN-LOAD with a margin and an action code. -/
def planFrame (margin action : Byte) : List Byte :=
  inbound 0x10 [1, 8, 0, 3, 0, 0, 0, 1, 1, margin, 255, 0, 0, 0, 0, 9, action, 0, 0, 0, 5]

theorem test_frame_plan_codes :
    commandOfFrame (planFrame 1 1) = .planLoad 1 (.fields ⟨0, true, true, none, none, [⟨1, none, [⟨9, 1, 5⟩]⟩]⟩) ∧
      commandOfFrame (planFrame 2 1) = .planLoad 1 .badLayout ∧
      commandOfFrame (planFrame 1 254) = .planLoad 1 .badLayout := by decide +kernel
theorem test_frame_no_setting :
    commandOfFrame (inbound 0x10 [1, 5]) = .voyageSetStaleLimit 1 .badLayout := by decide +kernel
theorem test_frame_one_byte : commandOfFrame (inbound 0x10 [9]) = .unknownOrder 9 .badLayout := by decide +kernel
theorem test_frame_bad_check : commandOfFrame [0x10, 2, 7, 18, 0, 0] = .inboundFrameDiscard .badCheck := by
  decide +kernel
theorem test_frame_unknown_kind :
    commandOfFrame (inbound 0x13 []) = .inboundFrameDiscard .unknownKind := by decide +kernel

/-! ## Channels (chapter 1) -/

/-- Channel 17 of section 1.3's examples. -/
def entry17 : ChannelEntry := ⟨6, 2, some (.tank 12 .primary), 400, 62000, -150, 96⟩

theorem test_sample_normal : (sampleClass entry17 20000, sounding entry17 20000) = (.normal, 1725) := by decide +kernel
theorem test_sample_over : (sampleClass entry17 63500, sounding entry17 63500) = (.over, 5663) := by decide +kernel
theorem test_sample_under : (sampleClass entry17 300, sounding entry17 300) = (.under, 0) := by decide +kernel
theorem test_sample_fault : sampleClass entry17 65535 = .fault := by decide +kernel

/-! ## Small states -/

/-- What a command leaves. -/
def after (i : Instr) (s : State) : State :=
  match exec i s with
  | .next t => t
  | .fault _ | .refused _ => s

/-- A command answers a next state with a property. -/
def ends (i : Instr) (s : State) (p : State → Bool) : Bool :=
  match exec i s with
  | .next t => p t
  | .fault _ | .refused _ => false

/-- The part in RUN. -/
def inRun : State := { State.reset with start := { StartState.reset with phase := .run } }

/-- The part in SETUP. -/
def inSetup : State := { State.reset with start := { StartState.reset with setup := true } }

/-- The part in a SUPPLY reset. -/
def inReset : State := { State.reset with start := { StartState.reset with inReset := some .supply } }

/-- The sounding points of tank 9 in chapter 2. -/
def points : List SoundingPoint := [⟨0, 0⟩, ⟨600, 2400⟩, ⟨1500, 7300⟩, ⟨3500, 18200⟩, ⟨4000, 21400⟩, ⟨9800, 52600⟩]

/-- An unused Tank Table entry. -/
def unused : TankFix := ⟨none, none, 0, 0, [], ⟨0, 0⟩, 0, []⟩

/-- A Tank Table entry reached by pumps 0 and 1. -/
def fixed (primary valve : Nat) : TankFix := ⟨some primary, none, 0, 10, [0, 1], ⟨4, valve⟩, 0, points⟩

/-- A Tank Table that uses tanks 0, 1 and 63. -/
def tankTable : List TankFix :=
  (((List.replicate 64 unused).set 0 (fixed 0 0)).set 1 (fixed 1 1)).set 63 (fixed 95 2)

/-- A Channel Table whose channel 0 is the primary gauge of tank 0, and channel 95 the draught mark FORE. -/
def channelTable : List ChannelEntry :=
  ((List.replicate 96 ⟨0, 0, none, 0, 0, 0, 0⟩).set 0 ⟨1, 0, some (.tank 0 .primary), 100, 60000, 0, 1024⟩).set 95
    ⟨2, 0, some (.mark .fore), 100, 60000, 0, 1024⟩

/-- The tables that the small states use. -/
def tables : Tables := { Tables.none with
  channel := some channelTable
  tank := some tankTable
  actuator := some [⟨4, 4⟩, ⟨4, 5⟩, ⟨4, 6⟩, ⟨4, 7⟩] }

/-- The Condition Record with an overall class. -/
def record (c : CondClass) : CondRecord := ⟨{ noResult with overall := c }, noMeasured, false, 30000⟩

/-- The part in RUN with tables, and a Condition Record of a class. -/
def ready (c : CondClass) : State := { inRun with
  tables := tables
  hull := { HullState.reset with condition := some (record c) }
  line := { LineState.reset with
    enumeration := .ended
    nodes := ((LineState.reset.nodes.set 0 ⟨.active, some .gauge, some 1, 0⟩).set 1
      ⟨.active, some .draught, some 1, 0⟩).set 3 ⟨.active, some .actuator, some 8, 0⟩ } }

/-- Orders of three steps, one tank entry each. -/
def plan : Plan := ⟨150, 50, [⟨[⟨0, .discharge, 2000⟩], none, .warning⟩, ⟨[⟨1, .fill, 9000⟩], none, .warning⟩,
  ⟨[⟨63, .fill, 100⟩], none, .clear⟩]⟩

/-- A context that holds the plan, its first step current and in a state. -/
def holding (c : CtxState) (x : StepState) : CtxRec :=
  ⟨c, some plan, 0, [⟨x, [false]⟩, ⟨.waiting, [false]⟩, ⟨.waiting, [false]⟩], false, 0, false⟩

/-- The part in RUN with context A designated and holding the plan. -/
def planned (c : CtxState) (x : StepState) : State := setCtx .a (holding c x) (ready .warning)

/-- A pump that serves a tank for context A's first step. -/
def serving (p k : Nat) (g : PumpStage) (s : State) : State :=
  setTank k { tankRec s k with serving := some p, service := some ⟨.discharge, 2000⟩ }
    (setPump p { pumpRec s p with stage := g, tank := some k, job := some (.a, 0), placed := true } s)

/-- The slots of the line cycle are passing. -/
def passing (s : State) : State := { s with line := { s.line with part := .afterSlot, slots := [1, 2, 4] } }

/-- Eight READY places. -/
def fullPlaces : List Place := List.replicate 8 ⟨1, 18, .ready .accepted .none⟩

/-! ## Contents, holds and hull (chapters 2, 3 and 4) -/

theorem test_conversion : correctedSounding { unused with trimCoef := -40, points := points } 2500 3937 = 3837 ∧
    volumeAt points 3862 = 20516 ∧ massOf 20516 1025 = 21029 ∧ massOf 20113 1025 = 20616 := by decide +kernel
theorem test_capacity : massOf 52600 1025 = 53915 := by decide +kernel

/-- Hold 4 of chapter 3's example before a frame. -/
def hold4 (mass seq : Nat) (unsure : Bool) : State :=
  setHold 4 { HoldRec.reset with mass := mass, phase := .pouring, lastRun := some 7, lastSeq := seq, unsure := unsure } inRun

theorem test_pour_gap : ends (.pour (.fields ⟨4, 7, 104, 2300, false⟩)) (hold4 4350 101 false)
    (fun t => (holdRec t 4).mass == 6650 && (holdRec t 4).unsure) = true := by decide +kernel
theorem test_pour_duplicate : ends (.pour (.fields ⟨4, 7, 99, 2160, false⟩)) (hold4 4350 101 false)
    (fun t => (holdRec t 4).mass == 4350 && (holdRec t 4).lastSeq == 101) = true := by decide +kernel
theorem test_hold_set : ends (.holdSet 1 (.fields ⟨4, 11050⟩)) (hold4 6650 105 true)
    (fun t => (holdRec t 4).mass == 11050 && !(holdRec t 4).unsure) = true := by decide +kernel

/-- The station of chapter 4's worked evaluation. -/
def worked : StationRes :=
  let items : List ItemSnap := (((List.replicate 76 ⟨0, .good, 0, false⟩).set 0 ⟨32000, .good, 0, false⟩).set 5
    ⟨8500, .good, 0, false⟩).set 66 ⟨150000, .good, 0, false⟩
  let none3 : List Coef := List.replicate 24 ⟨0, 0⟩
  let coefs := (((List.replicate 76 none3).set 0 (none3.set 3 ⟨19661, -4200⟩)).set 5 (none3.set 3 ⟨3277, 9600⟩)).set 66
    (none3.set 3 ⟨-26214, 1850⟩)
  let zeros : List Int := List.replicate 24 0
  stationResult ⟨4, 1650000, 0, zeros.set 3 (-12000), zeros.set 3 150000⟩ coefs
    ⟨List.replicate 24 ⟨75000, 75000, 190000, 190000⟩, []⟩
    ⟨items, { EvalSettings.reset with maxDraught := 17500 }, true, 0, noMeasured⟩ 3

theorem test_station_shear : (worked.sf, worked.sfSat, worked.sfPm, worked.sfCls) = (-61974, false, 826, .clear) := by
  decide +kernel
theorem test_station_bending : (worked.bm, worked.bmSat, worked.bmPm, worked.bmCls) = (172470, false, 907, .warning) := by
  decide +kernel
theorem test_round_away : roundDiv (-98304) 65536 = -2 := by decide +kernel

/-- The two hydrostatic points of the worked evaluation. -/
def hydroPoints : List HydroPoint := [⟨1800000, 15200, -260, 218000⟩, ⟨1900000, 16050, -340, 226000⟩]

theorem test_hydrostatics : hydroAt hydroPoints 1850000 = (15625, -300, 222000) ∧
    hydroAt hydroPoints 1853333 = (15653, -302, 222266) := by decide +kernel
theorem test_trim : rawTrim 1850000 (-300) 222000 (-1110000000) = 2500 := by decide +kernel

/-! ## Plans, pumps and reports (chapters 5 to 8) -/

/-- Context A with its first step RUNNING at a confirm count. -/
def counting (n : Nat) : State := setCtx .a { holding .active .running with confirmCount := n } (ready .warning)

theorem test_confirm_inside : ends (.confirm 1 (.fields ())) (counting 80)
    (fun t => (designatedRec t).confirmCount == 0 && currentState t == some .running) = true := by decide +kernel
theorem test_confirm_early : ends (.confirm 1 (.fields ())) (counting 40)
    (fun t => currentState t == some (.held .confirmEarly)) = true := by decide +kernel
theorem test_confirm_late : ends .confirmLate (passing (counting 149))
    (fun t => currentState t == some (.held .confirmLate)) = true := by decide +kernel

/-- An ALERT of an evaluation. -/
def alertOf (subject : Nat) (old new peak : CondClass) : Report :=
  .alert ⟨subject, old, new, peak, 1, none, none, none, none⟩

/-- A LOADER STOP. -/
def loaderOf (h : Nat) : Report := .loader ⟨h, true, 0, 0, .over, 0⟩

theorem test_alert_keeps_peak :
    postQueue (alertOf 3 .over .warning .warning) [⟨alertOf 3 .warning .over .over, true, 0⟩] =
      ⟨[⟨alertOf 3 .warning .warning .over, true, 0⟩], .merged, none⟩ := by decide +kernel
theorem test_alert_withdrawn :
    postQueue (alertOf 3 .clear .warning .warning) [⟨alertOf 3 .warning .clear .warning, true, 0⟩] =
      ⟨[], .merged, none⟩ := by decide +kernel

/-- A queue full of ALERTs (section 8.10). -/
def fullQueue : List ReportEntry :=
  (List.range 24).map (fun i => ⟨alertOf i .clear .over .over, true, 0⟩)

theorem test_full_queue : (postQueue (.fault ⟨.nodeSilent, 9, 0, true, 0⟩) fullQueue).queue = fullQueue ∧
    (postQueue (loaderOf 6) fullQueue).queue = fullQueue.drop 1 ++ [⟨loaderOf 6, true, 0⟩] := by decide +kernel

theorem test_stop_in_opening : (pumpRec (stopRequest 0 (serving 1 0 .opening (planned .active .running))) 1).stage =
    .closing := by decide +kernel
theorem test_clear_failed_pump :
    ends (.faultClear 1 (.fields ⟨5, 2⟩)) (setPump 2 { PumpRec.reset with stage := .failed } inRun)
      (fun t => (pumpRec t 2).stage == .idle) = true := by decide +kernel

/-! ## The line, the start and the supply (chapters 9 and 11) -/

theorem test_mark_carries_cycle : ends .lineCycleMark inRun
    (fun t => t.line.driven == [[0x01, 0x00, 0x00, 0x6B]] && t.line.part == .afterMark) = true := by decide +kernel
theorem test_cycle_wraps : ends (.cycleClose [])
    { inRun with line := { LineState.reset with cycle := 255, part := .afterSlot } }
    (fun t => t.line.cycle == 0 && t.line.lastClosed == 255) = true := by decide +kernel
theorem test_supply_low : ends .supplyLowBegin inRun
    (fun t => t.fault.summary && t.fault.list.length == 1) = true := by decide +kernel
theorem test_power_on_clears : ends (.powerOnReset 0) (hold4 6650 105 true)
    (fun t => holdRec t 4 == HoldRec.reset) = true := by decide +kernel
theorem test_supply_reset_keeps : ends (.supplyReset 0) (hold4 6650 105 true)
    (fun t => (holdRec t 4).mass == 6650) = true := by decide +kernel
theorem test_self_check_blank : ends (.selfCheckEnd []) State.reset
    (fun t => t.start.phase == .enumerate && t.fault.list.length == 10) = true := by decide +kernel

/-! ## Witnesses: states and operands that meet the hypotheses of each statement, clause by clause -/

theorem witness_StepTakesFrontCommand :
    { inRun with pending := [.lineCycleMark, .commandSlot] }.pending = Instr.lineCycleMark :: [.commandSlot] ∧
      inRun.pending = [] := by decide +kernel

/-- A store whose Identity Table alone is recorded. -/
def identityBytes : List Byte := List.replicate 16 7
def identityStore : Store :=
  ⟨(Vector.replicate 10 []).set 0 identityBytes,
    writeDirectory ⟨6, some (crc16 identityBytes).toNat :: List.replicate 9 none⟩, []⟩

theorem witness_FixedTables_tables : ends (.selfCheckEnd []) { State.reset with store := identityStore }
    (fun t => t.tables != State.reset.tables) = true := by decide +kernel

/-- A SETUP-END write of the Identity Table in flight. -/
def writing (s : State) : State := { s with start := { s.start with write := some [⟨0, identityBytes⟩] } }

theorem witness_FixedTables_store :
    (∀ i ∈ [Instr.setupEndWriteCompletion, .supplyReset 16, .powerOnReset 16],
      ends i (writing inSetup) (fun t => t.store != inSetup.store) = true) ∧
    16 ≤ imageBytes [⟨0, identityBytes⟩] := by decide +kernel

/-- A command waits in front. -/
def facing (i : Instr) (s : State) : State := { s with pending := [i] }
def steps (s : State) (p : State → Bool) : Bool :=
  match step s with
  | .next t => p t
  | .fault _ | .refused _ => false

/-- A full Report Queue, and a pour into hold 11 that reaches its allowance. -/
def crowded : State := facing (.pour (.fields ⟨11, 1, 0, 50000, false⟩))
  { setHold 11 { HoldRec.reset with allowance := 50000 } inRun with report := ⟨fullQueue, 0, 0⟩ }

theorem witness_ReportQueueLawKept : Safety.ReportQueueOk crowded ∧
    steps crowded (fun t => t.report.queue.length == 24 && (holdRec t 11).stopRequested) = true := by decide +kernel

/-- A full Fault List of priority 9 and below. -/
def listed : State := { inRun with fault :=
  ⟨(List.range 32).map (fun k => ⟨.gaugeDisagree, k, 0, true, false, false⟩), false, false⟩ }

theorem witness_FaultListLawKept : Safety.FaultListOk listed ∧ listed.fault.list.length = 32 ∧
    steps (facing .supplyLowBegin listed) (fun t => t.fault.list.length == 32) = true := by decide +kernel
theorem witness_SummaryLawKept : Safety.SummaryOk listed ∧
    steps (facing .supplyLowBegin listed) (fun t => t.fault.summary) = true := by decide +kernel
theorem witness_BoundsKept : Safety.QueuesOk crowded ∧ Safety.CountsOk crowded ∧ Safety.SettingsOk crowded ∧
    Safety.HoldsOk crowded ∧ steps crowded (fun _ => true) = true := by decide +kernel
theorem witness_DesignationLawKept :
    let s := facing (.planPause 1 (.fields 0)) (planned .active .running)
    let t := facing (.exchange 1 (.fields ())) (setCtx .b (holding .loaded .waiting) (planned .active .gated))
    (Safety.DesignationOk s ∧ Safety.ResumableOk s ∧ steps s (fun t => (ctxRec t .a).state == .paused) = true) ∧
      Safety.DesignationOk t ∧ Safety.ResumableOk t ∧
      steps t (fun u => (ctxRec u .a).resumable && (ctxRec u .a).state == .suspended) = true :=
  ⟨by decide +kernel, by decide +kernel⟩
theorem witness_PairingLawKept :
    let s := facing (.pumpStartTimeout 1)
      (passing { serving 1 0 .starting (planned .active .running) with settings := { Settings.reset with pumpTimeout := 1 } })
    Safety.PairingOk s ∧ steps s (fun t => (pumpRec t 1).stage == .failed) = true := by decide +kernel
theorem witness_ContentsLawKept :
    let s := facing (.conversionEnd 0)
      (setTank 0 { TankRec.reset with conv := some ⟨⟨.sample, .primary, 9800⟩, 0, 1025⟩ } (ready .clear))
    Safety.ContentsOk s ∧ steps s (fun t => (tankRec t 0).mass == 53915) = true := by decide +kernel

/-- All ten tables, with hull tables of two stations. -/
def hullTables : Tables := { tables with
  identity := some identityBytes
  lineMap := some (((List.replicate 30 none).set 0 (some ⟨.gauge, 1⟩)).set 3 (some ⟨.actuator, 8⟩))
  lever := some (List.replicate 12 0)
  base := some ⟨2, 100000, 0, List.replicate 24 0, List.replicate 24 0⟩
  influence := some (List.replicate 76 (List.replicate 24 ⟨0, 0⟩))
  limits := some ⟨List.replicate 24 ⟨100, 100, 100, 100⟩, List.replicate 24 ⟨100, 100, 100, 100⟩⟩
  hydro := some [⟨1, 100, 0, 1000⟩, ⟨20000000, 20000, 0, 1000⟩] }

/-- An evaluation of items of one mass in flight. -/
def inFlightOf (m : Nat) (k : EvalKind) (s : State) : State := { s with hull := { s.hull with
  engine := some ⟨k, 5, { snapshotNow k s with items := List.replicate 76 ⟨m, .good, 0, false⟩ }, true⟩ } }

/-- An evaluation of an empty ship in flight. -/
def inFlight : EvalKind → State → State := inFlightOf 0

/-- The STEP projection of context A's first step in flight, the step GATED and waiting for it. -/
def projecting : State :=
  inFlight (.step ⟨.a, 0, [⟨0, 2000⟩]⟩)
    (setCtx .a { holding .active .gated with asked := true } { ready .warning with tables := hullTables })

theorem witness_StepRunsOnlyWhenAdmitted : stepState (ctxRec projecting .a) 0 ≠ some .running ∧
    (∀ code < 10, tableValid projecting.tables code = true) ∧
    ends .stepCompletion projecting (fun t => stepState (ctxRec t .a) 0 == some .running) = true := by decide +kernel
theorem test_runs_without_actuators :
    let s := { projecting with tables := { projecting.tables with identity := none, actuator := none } }
    ends .stepCompletion s (fun t => stepState (ctxRec t .a) 0 == some .running &&
      t.pump.queue.map ReqEntry.tank == [0]) = true := by decide +kernel
theorem witness_ConditionLawKept :
    let s := facing (.currentCompletion []) (inFlight .current (planned .active .running))
    Safety.ConditionLawOk s ∧ stepState (ctxRec s .a) 0 = some .running ∧ overallClass s = .warning ∧
      steps s (fun t => overallClass t == .indefinite && stepState (ctxRec t .a) 0 == some (.held .condition)) = true :=
  ⟨⟨by decide +kernel, by decide +kernel, by decide +kernel⟩, by decide +kernel⟩
theorem witness_OrdersRefused :
    let full := { inRun with console := { ConsoleState.reset with places := fullPlaces } }
    let seven := writing { inRun with console := { ConsoleState.reset with places := fullPlaces.drop 1 } }
    let leaving := { inRun with console := { ConsoleState.reset with resetPending := true } }
    orderFrame (.holdSet 3 .badLayout) = some (3, 6) ∧ isStatus (.holdSet 3 .badLayout) = false ∧
      badlyLaidOut (.holdSet 3 .badLayout) = true ∧ full.start.inReset = none ∧ 8 ≤ full.console.places.length ∧
      seven.start.inReset = none ∧ seven.console.places.length = 7 ∧ seven.start.write ≠ none ∧
      leaving.start.inReset = none ∧ leaving.console.places.length < 8 ∧ leaving.console.resetPending = true ∧
      TakesOrders inRun ∧ inReset.start.inReset ≠ none ∧ actsInReset .lineCycleMark = false := by
  decide +kernel
theorem witness_OrdersRefused_short :
    orderFrame (.unknownOrder 255 .badLayout) = some (255, Config.missingCode.toNat) := rfl

/-- SETUP with the first eight bytes of an Identity Table held. -/
def halfLoaded : State := { inSetup with start := { inSetup.start with
  openTable := some ⟨0, identityBytes.take 8⟩, lastPart := some ⟨0, 0⟩ } }

theorem witness_TableLoadTaken_first (last : Bool) (bytes : List Byte) (c : Nat) :
    TakesOrders inSetup ∧ inSetup.start.setup = true ∧ Continues inSetup ⟨0, 0, last, bytes, c⟩ [] :=
  ⟨by decide +kernel, by decide +kernel, .inl ⟨rfl, rfl⟩⟩
theorem witness_TableLoadTaken_later : TakesOrders halfLoaded ∧ halfLoaded.start.setup = true ∧
    Continues halfLoaded ⟨0, 1, true, identityBytes.take 8, 0⟩ (identityBytes.take 8) ∧
    (identityBytes.take 8 ++ identityBytes.take 8).length ≤ tableSize 0 ∧
    tableOk halfLoaded 0 (identityBytes.take 8 ++ identityBytes.take 8) = true ∧
    halfLoaded.start.lastPart ≠ some ⟨0, 255⟩ :=
  ⟨by decide +kernel, by decide +kernel, .inr ⟨0, rfl, rfl, rfl⟩, by decide +kernel, by decide +kernel, by decide +kernel⟩
theorem witness_TableLoadTaken_sizes : (identityBytes).length = tableSize 0 ∧
    tableSize 0 < (identityBytes ++ [0]).length ∧ (crc16 identityBytes).toNat ≠ 0 := by decide +kernel
theorem witness_TableLoadTaken_repeat : (⟨0, 1, true, [1], 0⟩ : TablePart).part ≠ 0 ∧
    { inSetup with start := { inSetup.start with lastPart := some ⟨0, 1⟩ } }.start.lastPart = some ⟨0, 1⟩ ∧
    inSetup.start.lastPart ≠ some ⟨0, 1⟩ ∧ ∀ held, ¬ Continues inSetup ⟨0, 1, true, [1], 0⟩ held := by
  refine ⟨by decide, by decide +kernel, by decide +kernel, ?_⟩
  rintro held (⟨h, -⟩ | ⟨k, -, h, -⟩)
  · cases h
  · exact absurd h (by simp [inSetup, State.reset, StartState.reset])
theorem witness_TableLoadTaken_refused : (TakesOrders inRun ∧ inRun.start.setup = false) ∧
    TakesOrders inSetup ∧ inSetup.start.setup = true ∧ 10 ≤ (⟨10, 0, false, [1], 0⟩ : TablePart).code := by decide +kernel
theorem witness_SetupAndReadOrdersTaken :
    let s := { inRun with
      tables := { Tables.none with identity := some identityBytes }
      store := identityStore
      start := { inRun.start with completed := inRun.start.completed.set 9 (some (List.replicate 8 1)) } }
    (TakesOrders State.reset ∧ State.reset.start.setup = false ∧ State.reset.start.phase = .selfCheck) ∧
      (TakesOrders inSetup ∧ inSetup.start.setup = true) ∧
      (TakesOrders s ∧ s.start.setup = false ∧ s.start.phase ≠ .selfCheck ∧ s.start.phase ≠ .enumerate) ∧
      tableValid s.tables 9 = false ∧ tableValid s.tables 0 = true ∧ 240 * 0 < (imageOf s.store 0).length ∧
      ¬ 240 * 1 < (imageOf s.store 0).length ∧ (s.start.completed[0]?).getD none = none ∧
      (s.start.completed[9]?).getD none = some (List.replicate 8 1) := by decide +kernel
theorem test_stored_tables_in_self_check :
    let s := { State.reset with store := identityStore }
    (storedTables s).identity = some identityBytes ∧ s.tables.identity = none ∧
      (storedTables { s with start := { s.start with phase := .enumerate } }).identity = none := by decide +kernel
theorem witness_WriteCompletionRestarts :
    let s := { writing inSetup with report := ⟨fullQueue, 0, 0⟩ }
    let a := { s with store := identityStore }
    s.start.inReset = none ∧ s.start.write = some [⟨0, identityBytes⟩] ∧
      (([⟨0, identityBytes⟩, ⟨9, []⟩] : List TableImage).map TableImage.code).Nodup ∧ secondInForce s.store = none ∧
      secondInForce a.store = some false ∧
      secondInForce { a.store with dirB := writeDirectory ⟨7, List.replicate 10 none⟩ } = some true ∧
      s.fault.list = [] ∧ s.report.queue.length + s.fault.list.length ≤ 24 := by decide +kernel
theorem witness_WrittenBytesReadBack :
    let d : Directory := ⟨4294967295, List.replicate 9 (some 65535) ++ [none]⟩
    d.seq < 4294967296 ∧ d.checks.length = 10 ∧ ∀ v ∈ d.checks, ∀ n ∈ v, n < 65536 := by decide +kernel
theorem witness_VoyageSettingsTaken :
    let fits (l : List Window) := 1 ≤ l.length ∧ l.length ≤ 8 ∧ ∀ w ∈ l, 1 ≤ w.count ∧ w.first + w.count ≤ 24
    TakesOrders inRun ∧ inRun.tables.base = none ∧ fits (List.replicate 8 ⟨23, 1⟩) ∧
      ¬ fits (List.replicate 9 ⟨23, 1⟩) ∧ ¬ fits [⟨23, 2⟩] ∧ ¬ fits [⟨0, 0⟩] ∧ ¬ fits [] := by decide +kernel

/-- A conversion of tank 0 in flight. -/
def converting : State := setTank 0 { TankRec.reset with conv := some ⟨⟨.sample, .primary, 3937⟩, 0, 1025⟩ } (ready .clear)

theorem witness_DensityTaken : TakesOrders (ready .clear) ∧ tankInUse (ready .clear) 2 = false ∧
    tankInUse (ready .clear) 63 = true ∧ (tankRec (ready .clear) 63).conv = none ∧ TakesOrders converting ∧
    tankInUse converting 0 = true ∧ (tankRec converting 0).conv ≠ none := by decide +kernel

/-- Hold 11 asked to stop. -/
def stopped (c : CondClass) : State :=
  setHold 11 { HoldRec.reset with mass := 50, allowance := 50, stopRequested := true, unsure := true } (ready c)

theorem witness_HoldOrdersTaken : TakesOrders (stopped .clear) ∧ TakesOrders (stopped .over) ∧
    (holdRec (stopped .clear) 11).stopRequested = true ∧ (holdRec (stopped .clear) 11).mass < (within 0 1000000 51).toNat ∧
    overallClass (stopped .clear) ≠ .over ∧ overallClass (stopped .over) = .over ∧
    (holdRec (stopped .clear) 11).unsure = true := by decide +kernel
theorem witness_PoursAccounted :
    let s := hold4 999999 31 false
    let behind (q : Nat) := ((31 : Int) - q) % 65536
    s.start.inReset = none ∧ (holdRec s 4).lastRun = some 7 ∧ (holdRec s 4).lastSeq = 31 ∧ behind 0 = 31 ∧
      31 < behind 65535 ∧ 1000000 < (holdRec s 4).mass + 2 ∧
      (holdRec (ready .over) 11).stopRequested = false ∧ overallClass (ready .over) = .over ∧
      (after (.pour (.fields ⟨11, 1, 0, 7, true⟩)) (ready .over)).report.queue = [] := by decide +kernel
theorem witness_ProjectTaken :
    let fits (l : List Substitution) := l.length ≤ 8 ∧ (l.map Substitution.item).Nodup ∧ ∀ q ∈ l, q.item < 76 ∧
      (q.item < 64 → tankInUse (ready .clear) q.item = true ∧ q.mass ≤ capacity (ready .clear) q.item) ∧
      (64 ≤ q.item → q.mass ≤ 1000000)
    TakesOrders (ready .clear) ∧
      fits [⟨63, 53915⟩, ⟨64, 0⟩, ⟨65, 0⟩, ⟨66, 0⟩, ⟨67, 0⟩, ⟨68, 0⟩, ⟨69, 0⟩, ⟨75, 1000000⟩] ∧
      ¬ fits [⟨63, 53916⟩] ∧ ¬ fits [⟨76, 0⟩] ∧ ¬ fits [⟨75, 1000001⟩] ∧ ¬ fits [⟨64, 0⟩, ⟨64, 0⟩] := by decide +kernel

/-- The state with an exchange in flight out of context A. -/
def exchanging (s : State) : State :=
  { s with plan := { s.plan with exchange := some ⟨.a, .active, [1], true, .order⟩ } }

theorem witness_PlanOrdersGated : (TakesOrders inSetup ∧ inSetup.start.setup = true) ∧
    (TakesOrders State.reset ∧ State.reset.start.phase = .selfCheck) ∧
    (TakesOrders (exchanging inRun) ∧ (exchanging inRun).start.setup = false ∧
      (exchanging inRun).start.phase ≠ .selfCheck ∧ (exchanging inRun).start.phase ≠ .enumerate ∧
      (exchanging inRun).plan.exchange ≠ none) ∧ TakesPlanOrders inRun := by decide +kernel

/-- A working plan of one step, and steps that R108 refuses. -/
def workOne : WorkPlan := ⟨150, 50, [⟨0, none, [⟨0, 0, 2000⟩]⟩]⟩

theorem witness_PlanLoadTaken :
    let s := ready .clear
    TakesPlanOrders s ∧ s.tables.tank ≠ none ∧ TakesPlanOrders inRun ∧ inRun.tables.tank = none ∧
      TakesPlanOrders (planned .active .gated) ∧ (planned .active .gated).plan.designated = .a ∧
      (ctxRec (planned .active .gated) .a).state = .active ∧ workPlan s .a = none ∧ planFault s workOne = none ∧
      planFault s { workOne with steps := [⟨2, none, [⟨0, 0, 2000⟩]⟩] } ≠ none ∧
      workPlan (setWork .a (some workOne) s) .a = some workOne := by decide +kernel
theorem witness_PlanStartTaken :
    let s := planned .loaded .skipped
    let t := setCtx .a { holding .loaded .skipped with steps := [⟨.skipped, [false]⟩] } s
    TakesPlanOrders s ∧ s.plan.designated = .a ∧ (ctxRec s .a).state = .loaded ∧
      stepState (ctxRec s .a) 1 ≠ some .skipped ∧ stepState (ctxRec s .a) 0 = some .skipped ∧ TakesPlanOrders t ∧
      (ctxRec t .a).state = .loaded ∧ (ctxRec t .a).steps.length = 1 ∧ stepState (ctxRec t .a) 0 = some .skipped ∧
      TakesPlanOrders (planned .aborted .waiting) ∧ (ctxRec (planned .aborted .waiting) .a).state = .aborted := by
  decide +kernel
theorem witness_ResumeTaken : ∀ x ∈ [(CtxState.paused, StepState.held .pause), (.paused, .waiting), (.paused, .gated),
      (.active, .held .noFlow), (.complete, .done), (.active, .running)],
    TakesPlanOrders (planned x.1 x.2) ∧ (planned x.1 x.2).plan.designated = .a ∧
      (ctxRec (planned x.1 x.2) .a).state = x.1 ∧ stepState (ctxRec (planned x.1 x.2) .a) 0 = some x.2 ∧
      (ctxRec (planned x.1 x.2) .a).index = 0 := by decide +kernel
theorem witness_StepsGateAndAdvance :
    let s := planned .active .running
    let done := setCtx .a { designatedRec s with steps := [⟨.running, [true]⟩, ⟨.skipped, [false]⟩, ⟨.waiting, [false]⟩] } s
    let first : PlanStep := ⟨[⟨0, .discharge, 2000⟩], none, .warning⟩
    let r := designatedRec done
    planStep (designatedRec s) 0 = some first ∧ (designatedRec s).steps[0]? = some ⟨.running, [false]⟩ ∧
      planStep r r.index = some first ∧ r.steps[r.index]? = some ⟨.running, [true]⟩ ∧ (tankRec done 0).serving = none ∧
      r.index < 2 ∧ 2 < r.steps.length ∧ stepState r 2 ≠ some .skipped ∧ (∀ k < 2, 0 < k → stepState r k = some .skipped) ∧
      (∀ k < 3, 2 < k → stepState r k = some .skipped) ∧
      stepState (designatedRec (judgeDone done)) 0 = some .done ∧ (designatedRec (judgeDone done)).index = 2 := by
  decide +kernel
theorem witness_PlanPauseTaken :
    (let s := serving 1 0 .running (planned .active .running);
      TakesPlanOrders s ∧ s.plan.designated = .a ∧ (ctxRec s .a).state = .active ∧ stepState (ctxRec s .a) 0 = some .running) ∧
    (let s := planned .active .gated;
      TakesPlanOrders s ∧ s.plan.designated = .a ∧ (ctxRec s .a).state = .active ∧ stepState (ctxRec s .a) 0 ≠ some .running) ∧
    (let s := planned .paused .gated;
      TakesPlanOrders s ∧ s.plan.designated = .a ∧ (ctxRec s .a).state = .paused) := by decide +kernel
theorem witness_SkipAndAbortTaken :
    let s := planned .paused (.held .valve)
    TakesPlanOrders s ∧ s.plan.designated = .a ∧ (ctxRec s .a).state = .paused ∧ (ctxRec s .a).index = 0 ∧
      2 < (ctxRec s .a).steps.length ∧ (ctxRec s .a).steps.length ≤ 3 ∧ stepState (ctxRec s .a) 2 = some .waiting ∧
      isHeld (stepState (ctxRec s .a) 0) = true ∧ TakesPlanOrders (planned .active .running) ∧
      stepState (ctxRec (planned .active .running) .a) 0 = some .running ∧ (ctxRec s .b).state = .empty ∧
      (let t := setCtx .b (holding .suspended (.held .exchange)) s;
        TakesPlanOrders t ∧ t.plan.designated ≠ .b ∧ (ctxRec t .b).state = .suspended) := by decide +kernel
theorem witness_ConfirmTaken : TakesPlanOrders (counting 75) ∧ stepState (designatedRec (counting 75)) 0 = some .running ∧
    (designatedRec (counting 75)).plan = some plan ∧ plan.period * (100 - plan.share) / 100 ≤ 75 ∧
    74 < plan.period * (100 - plan.share) / 100 ∧ TakesPlanOrders (planned .active .gated) ∧
    stepState (designatedRec (planned .active .gated)) 0 ≠ some .running := by decide +kernel
theorem witness_ExchangeTaken :
    (let s := setCtx .b (holding .loaded .waiting) (serving 1 0 .running (planned .active .running));
      TakesPlanOrders s ∧ (ctxRec s .b).state = .loaded ∧
        (List.range 4).filter (fun p => ((pumpRec s p).job.map Prod.fst) == some s.plan.designated) = [1]) ∧
    (let s := setCtx .b (holding .suspended (.held .exchange)) (planned .active .gated);
      TakesPlanOrders s ∧ (ctxRec s .b).state = .suspended ∧
        (List.range 4).filter (fun p => ((pumpRec s p).job.map Prod.fst) == some s.plan.designated) = []) ∧
    (ctxRec (planned .active .gated) .b).state = .empty := by decide +kernel
theorem witness_ExchangeTaken_gated :
    let s := setCtx .b (holding .loaded .waiting) (serving 3 63 .closing (planned .active .gated))
    TakesPlanOrders s ∧ (ctxRec s .b).state = .loaded ∧ stepState (ctxRec s .a) 0 = some .gated ∧
      ((stepTanks (ctxRec s .a) 0).map PlanEntry.tank).Nodup ∧ (tankRec s 0).service = none ∧
      ends (.exchange 1 (.fields ())) s (fun t => (tankRec t 0).service == some ⟨.discharge, 2000⟩ &&
        t.plan.exchange == some ⟨.a, .active, [3], true, .order⟩) = true := by decide +kernel

/-- An exchange in flight out of context A, into context B in a state, with some pumps to come. -/
def releasing (served : List Nat) (b : CtxRec) : State :=
  let s := setCtx .b b (serving 1 0 .closing (planned .active (.held .exchange)))
  { s with plan := { s.plan with exchange := some ⟨.a, .active, served, true, .order⟩ } }

theorem witness_ExchangeReleasesTaken :
    let resuming := { holding .suspended (.held .exchange) with resumable := true }
    let paused := holding .suspended (.held .valve)
    let fresh := holding .loaded .skipped
    let skipped := { fresh with steps := [⟨.skipped, [false]⟩] }
    inRun.plan.exchange = none ∧ (releasing [0, 3] fresh).plan.exchange = some ⟨.a, .active, [0, 3], true, .order⟩ ∧
      ([0, 3].filter (fun q => q != 3)) = [0] ∧ ([1].filter (fun q => q != 1)) = [] ∧
      (let o := ctxRec (exchangeRelease 1 true (releasing [1] resuming)) .b;
        o.state = .active ∧ stepState o 0 = some .gated ∧ o.resumable = false) ∧
      (let t := exchangeRelease 1 false (releasing [1] paused);
        (ctxRec t .b).state = .paused ∧ stepState (ctxRec t .b) 0 = some (.held .valve) ∧
          ((stepTanks paused 0).map PlanEntry.tank).Nodup ∧ (tankRec t 0).service = some ⟨.discharge, 2000⟩ ∧
          (ctxRec t .a).resumable = false) ∧
      (let o := ctxRec (exchangeRelease 1 true (releasing [1] fresh)) .b;
        o.state = .active ∧ o.index = 1 ∧ stepState o 1 = some .gated) ∧
      ctxRec (exchangeRelease 1 true (releasing [1] skipped)) .b = { skipped with state := .complete } := by
  decide +kernel
theorem witness_ExchangeReleases_auto :
    let s := setCtx .b (holding .loaded .waiting) (setCtx .a (holding .active .running) (ready .over))
    let on (u : State) : State := { u with plan := { u.plan with autoEffective := true } }
    let served (u : State) := (List.range 4).filter (fun p => ((pumpRec u p).job.map Prod.fst) == some u.plan.designated)
    overallClass s = .over ∧ s.plan.autoEffective = false ∧ stepState (designatedRec (on s)) 0 = some .running ∧
      (on s).plan.exchange = none ∧ (ctxRec (on s) .b).state = .loaded ∧ served (on s) = [] ∧
      served (on (serving 3 0 .running s)) = [3] ∧ (planHandOn (on s)).plan.designated = .b := by decide +kernel

/-- An answer of the ACTUATOR node: three valves in one state, and its five other outputs STOPPED. -/
def feedback (v : Byte) : List Byte := lineFrame 6 4 (be 1 8 ++ List.replicate 3 v ++ List.replicate 5 5)

theorem witness_ResumableOnlyAfterCleanStops :
    let s := passing (releasing [1] (holding .loaded .waiting))
    let t := setCtx .b (holding .loaded .waiting) (planned .active .gated)
    (ctxRec s .a).resumable = false ∧ ends (.answerFrame 4 (feedback 2) []) s (fun u => (ctxRec u .a).resumable) = true ∧
      (ctxRec t .a).resumable = false ∧ ends (.exchange 1 (.fields ())) t (fun u => (ctxRec u .a).resumable) = true := by
  decide +kernel
theorem witness_AutoExchangeTaken :
    let on := { inRun with plan := { PlanState.reset with autoEffective := true } }
    Hears (writing inSetup) ∧ (writing inSetup).start.write ≠ none ∧ TakesOrders inSetup ∧ inSetup.start.setup = true ∧
      TakesOrders (exchanging inRun) ∧ (exchanging inRun).plan.exchange ≠ none ∧ TakesPlanOrders inRun ∧
      inRun.plan.autoEffective = false ∧ TakesPlanOrders on ∧ on.plan.autoEffective = true := by decide +kernel
theorem witness_FaultClearTaken :
    let failed := tellActive .pumpFailed 3 (setPump 3 { PumpRec.reset with stage := .failed } inRun)
    let valve := tellActive .valveFault 63 inRun
    TakesOrders failed ∧ (pumpRec failed 3).stage = .failed ∧ TakesOrders valve ∧ findFault valve .valveFault 63 ≠ none ∧
      TakesOrders inRun ∧ findFault inRun .pumpFailed 3 = none ∧ (pumpRec inRun 3).stage ≠ .failed ∧
      findFault inRun .valveFault 63 = none ∧ findFault (tellActive .pumpFailed 3 inRun) .pumpFailed 3 ≠ none ∧
      faultCodeOf 11 = some .draughtMismatch ∧ FaultCode.subjectOk .draughtMismatch 1 = false ∧
      FaultCode.subjectOk .draughtMismatch 0 = true := by decide +kernel
theorem witness_ConsoleEventsTaken : Hears (writing inSetup) ∧ TakesOrders inRun ∧ inRun.start.inReset = none := by
  decide +kernel
theorem witness_ForwardTaken :
    let eight := { ready .clear with line := { (ready .clear).line with queue := List.replicate 8 (.forward 1 [1]) } }
    TakesOrders inRun ∧ inRun.line.enumeration ≠ .ended ∧ TakesOrders (ready .clear) ∧
      (ready .clear).line.enumeration = .ended ∧ (nodeRec (ready .clear) 30).state = .absent ∧
      (nodeRec (ready .clear) 1).state ≠ .absent ∧ nodeOwned (ready .clear) 1 = false ∧
      nodeOwned (planned .active .running) 4 = true ∧
      TakesOrders (planned .active .running) ∧ (nodeRec (planned .active .running) 4).state ≠ .absent ∧
      forwardCount (ready .clear) < 8 ∧ 8 ≤ forwardCount eight := by decide +kernel

/-- The line after a cycle mark. -/
def marked (e : EnumState) (sweep : List SweepCommand) (s : State) : State :=
  { s with line := { s.line with part := .afterMark, enumeration := e, sweep := sweep } }

theorem witness_MarkAndSlotTaken :
    let one : List SweepCommand := [⟨⟨4, 0⟩, .closeValve⟩]
    inRun.line.part = .beforeMark ∧ (passing inRun).line.part ≠ .beforeMark ∧ (passing inRun).line.part ≠ .afterMark ∧
      (marked .sweeping one inRun).line.part = .afterMark ∧ (marked .sweeping one inRun).line.sweep ≠ [] ∧
      one.drop 4 = [] ∧ (List.replicate 5 one).flatten.drop 4 ≠ [] ∧ (marked .unassignDue [] inRun).line.sweep = [] ∧
      (marked (.giving 31 2) [] inRun).line.enumeration = .giving 31 2 ∧ (marked .ended [] inRun).line.sweep = [] ∧
      inRun.report.queue.length < 23 := by decide +kernel
theorem witness_MarkAndSlot_noneAnswered :
    let s := marked .sweeping [⟨⟨4, 0⟩, .closeValve⟩]
      { inRun with tables := { Tables.none with lineMap := some ((List.replicate 30 none).set 29 (some ⟨.gauge, 1⟩)) } }
    (∀ a < 31, (nodeRec s a).state = .absent) ∧ mapEntry s 30 ≠ none ∧ (nodeRec (ready .clear) 1).state ≠ .absent ∧
      (after .commandSlot s).fault.list.map FaultEntry.code = [.lineBreak] := by decide +kernel
theorem witness_AssignedFramesTaken :
    let s := passing { inRun with line := { LineState.reset with enumeration := .giving 30 0, assign := .placed } }
    SlotsPassing s ∧ s.line.enumeration = .giving 30 0 ∧ s.line.assign = .placed ∧ readLineFrame [1, 2, 3] = none ∧
      readLineFrame (lineFrame 5 29 [1, 1]) = some ⟨5, 29, [1, 1]⟩ ∧
      ends (.assigned (lineFrame 5 29 [1, 1])) s (fun t => t.line.assign == .failed) = true := by decide +kernel

/-- An answer frame of one value for a node. -/
def answer (a v : Nat) : List Byte := lineFrame 6 a (be 1 1 ++ be 2 v)

theorem witness_AnswerFramesTaken :
    let s := passing (ready .clear)
    let f := { s with line := { s.line with nodes := s.line.nodes.set 1 ⟨.foreign, none, none, 0⟩ } }
    let full := { s with console := { s.console with relay := List.replicate 128 ⟨1, 0, []⟩ } }
    SlotsPassing s ∧ 1 ∈ s.line.slots ∧ s.line.slotAt < 1 ∧ usableValues s 1 (answer 1 500) = some [500] ∧
      usableValues s 1 (answer 2 500) = none ∧ receivingChannel s 1 0 .gauge = some 0 ∧
      (chanEntry s 0).map (fun e => sampleClass e 500) = some .normal ∧
      receivingChannel s 2 0 .draught = some 95 ∧ receivingChannel s 1 1 .gauge = none ∧
      usableValues s 4 (feedback 1) = some [1, 1, 1, 5, 5, 5, 5, 5] ∧ tankOfOutput s ⟨4, 1⟩ = some 1 ∧
      tankOfOutput s ⟨4, 7⟩ = none ∧ pumpOfOutput s ⟨4, 7⟩ = some 3 ∧ SlotsPassing f ∧ (nodeRec f 2).state = .foreign ∧
      usableValues f 2 (answer 2 500) = some [500] ∧ f.settings.relay = true ∧ f.console.relay.length < 128 ∧
      SlotsPassing full ∧ 128 ≤ full.console.relay.length ∧ usableValues full 1 (answer 1 500) = some [500] := by
  decide +kernel
theorem witness_AnswerFrames_ends :
    let s := passing (ready .clear)
    let s := { s with line := { s.line with nodes := s.line.nodes.set 0 ⟨.silent, some .gauge, some 1, 3⟩, breakCount := 3 } }
    let s := tellActive .nodeSilent 1 (tellActive .lineBreak 0 s)
    Safety.FaultListOk s ∧ (nodeRec s 1).state = .silent ∧ s.line.breakCount = 3 ∧
      usableValues s 1 (answer 1 500) = some [500] ∧
      (after (.answerFrame 1 (answer 1 500) []) s).fault.list.map FaultEntry.active = [false, false] ∧
      (after (.answerFrame 1 (answer 1 500) []) s).line.breakCount = 0 := by decide +kernel

/-- Tank 63 with two gauges: its secondary on channel 94. -/
def paired : State :=
  let s := ready .clear
  let s := { s with tables := { s.tables with tank := some (tankTable.set 63 { fixed 95 2 with secondary := some 94 }) } }
  setTank 63 { tankRec s 63 with
    viewP := ⟨.fresh, some 600, some .normal⟩, viewS := ⟨.held, some 700, some .normal⟩, source := .primary } s

theorem witness_ViewsTaken :
    let named (k c : Nat) (role : Role) := (tankFix paired k).bind (fun f => f.channel role) = some c
    let value (role : Role) (c : Nat) := tankRec (handValue c 63 role 650 .normal paired) 63
    let lost (role : Role) (c : Nat) := tankRec (handValidity c 63 role .lost paired) 63
    named 63 95 .primary ∧ named 63 94 .secondary ∧ ¬ named 63 93 .secondary ∧ ¬ named 0 0 .secondary ∧
      (tankRec paired 63).misBound = false ∧ (setTank 0 { TankRec.reset with misBound := true } paired) ≠ paired ∧
      sourceNow paired 63 (value .primary 95) = some .primary ∧ (value .primary 95).conv.isSome = true ∧
      sourceNow paired 63 (value .secondary 94) = some .primary ∧ (value .secondary 94).conv = none ∧
      sourceNow paired 63 (tankRec paired 63) = some .primary ∧
      sourceNow paired 63 (lost .primary 95) = some .secondary ∧ (tankRec paired 63).viewS.sounding = some 700 ∧
      (lost .primary 95).conv.isSome = true ∧ sourceNow paired 63 (lost .secondary 94) = some .primary ∧
      (lost .secondary 94).conv = none ∧ (lost .secondary 94).cls = .good := by decide +kernel
theorem witness_Views_noSource :
    let s := setTank 0 { tankRec (ready .clear) 0 with viewP := ⟨.held, some 600, some .normal⟩ } (ready .clear)
    let t := handValidity 0 0 .primary .lost s
    sourceNow s 0 (tankRec t 0) = none ∧ (tankRec t 0).cls = .indefinite := by decide +kernel
theorem witness_ConversionEnds :
    let c : Conversion := ⟨⟨.sample, .primary, 600⟩, 0, 1025⟩
    let s := serving 1 0 .running (planned .active .running)
    let t := setTank 0 { tankRec s 0 with conv := some ⟨⟨.sample, .primary, 0⟩, 0, 1025⟩ } s
    converting.start.inReset = none ∧ tankFix converting 0 = some (fixed 0 0) ∧ (tankRec converting 0).conv ≠ none ∧
      (tankRec converting 0).serving = none ∧ (tankRec t 0).serving = some 1 ∧ (pumpRec t 1).stage = .running ∧
      (tankRec t 0).service = some ⟨.discharge, 2000⟩ ∧
      massOf (volumeAt points (correctedSounding (fixed 0 0) 0 0)) 1025 ≤ 2000 ∧
      ¬ massOf (volumeAt points (correctedSounding (fixed 0 0) c.trim c.request.sounding)) c.density ≤ 2000 ∧
      (ctxRec t .a).steps[0]? = some ⟨.running, [false]⟩ := by decide +kernel
theorem witness_CycleCloses :
    let s := { passing (ready .clear) with start := { inRun.start with phase := .ready } }
    ¬ (inRun.start.inReset = none ∧ inRun.line.part = .afterSlot) ∧ CloseDue s ∧ s.start.phase = .ready ∧
      (∀ a < 32, ∀ u < 4, s.line.enumeration ≠ .giving a u) ∧ 4 ∈ s.line.slots ∧ 4 ∉ s.line.heard ∧
      (chanEntry s 95).isSome = true ∧ (chanEntry s 0).bind ChannelEntry.binding = some (.tank 0 .primary) ∧
      namedFor s 0 .primary 0 = true := by decide +kernel
theorem witness_CycleCloses_order : ([.faults, .start, .reports, .hull, .plan, .pumps, .channels, .line] : List CloseWork).Perm
    [.line, .channels, .pumps, .plan, .hull, .reports, .faults, .start] := by decide +kernel

/-- A cycle close at which every step of the table is due. -/
def lateClose (s : State) : State := { passing s with
  chan := ⟨(Vector.replicate 96 ChannelRec.reset).set 95 ⟨.held, 5, true, some 100, some .normal, false, false⟩,
    ⟨some 100, none, none, none⟩⟩
  report := ⟨[], 4, 24⟩
  line := { (passing s).line with
    nodes := s.line.nodes.set 1 ⟨.active, some .draught, some 1, 2⟩, breakCount := 2 } }

theorem witness_CloseStepsTaken :
    let s := lateClose (counting 149)
    s.start.inReset = none ∧ s.line.part = .afterSlot ∧ s.close.taken = [] ∧ (chanEntry s 95).isSome = true ∧
      (chanRec s 95).usable = false ∧ (chanRec s 95).validity ≠ .lost ∧ s.settings.staleLimit < bump 255 (chanRec s 95).age ∧
      announced s = true ∧ (chanRec s 95).lossRaised = false ∧ s.fault.list.length < 31 ∧ 2 ∈ s.line.slots ∧
      2 ∉ s.line.heard ∧ s.line.enumeration = .ended ∧ (nodeRec s 2).state = .active ∧ 2 ≤ (nodeRec s 2).missed ∧
      s.line.slots ≠ [] ∧ s.line.heard = [] ∧ s.line.breakCount = 2 ∧ (designatedRec s).plan = some plan ∧
      currentState s = some .running ∧ plan.period ≤ (designatedRec s).confirmCount + 1 ∧
      s.settings.conditionPeriod ≤ bump 255 s.report.conditionCount ∧ (designatedRec s).state = .active ∧
      s.settings.progressPeriod ≤ bump 255 s.report.progressCount := by decide +kernel
theorem witness_CycleCloses_works :
    let s := lateClose (counting 149)
    let owing := { listed with fault := { listed.fault with
      list := listed.fault.list.modify 31 (fun e => { e with owed := true }) } }
    s.close.taken = [] ∧ listed.close.taken = [] ∧ Safety.FaultListOk owing ∧
      owing.fault.list.filter FaultEntry.owed ≠ [] ∧
      (closeWork .faults owing).report.queue.map ReportEntry.key = [.fault .gaugeDisagree 31] ∧
      currentState (closeWork .plan s) = some (.held .confirmLate) ∧
      (closeWork .line s).fault.list.map FaultEntry.code = [.nodeSilent, .lineBreak] ∧
      (closeWork .line s).line.breakCount = 3 ∧
      (closeWork .reports s).report.queue.map ReportEntry.key = [.condition, .progress .a] := by decide +kernel
theorem witness_CloseSteps_addressing :
    let s := passing { ready .clear with line := { (ready .clear).line with enumeration := .giving 31 0 } }
    let t := passing { ready .clear with line := { (ready .clear).line with enumeration := .giving 5 2, assign := .placed } }
    let u := { passing inSetup with
      line := { (passing inSetup).line with enumeration := .ended }
      start := { inSetup.start with setupCloses := 49 } }
    s.line.part = .afterSlot ∧ s.line.enumeration = .giving 31 0 ∧ t.line.enumeration = .giving 5 2 ∧ t.line.assign = .placed ∧
      sweepList s ≠ [] ∧ sweepList (passing inRun) = [] ∧ u.line.part = .afterSlot ∧ u.start.setup = true ∧
      u.line.enumeration = .ended ∧ 49 ≤ u.start.setupCloses := by decide +kernel
theorem witness_CloseSteps_bindings :
    let bound (b : Binding) : State :=
      let s := lateClose (counting 149)
      { s with
        tables := { s.tables with channel := some (channelTable.set 95 ⟨2, 0, some b, 100, 60000, 0, 1024⟩) }
        chan := { s.chan with draughts := ⟨some 1, some 1, some 1, some 1⟩ } }
    let lost (b : Binding) : DraughtSet := (after (.channelStale 95) (bound b)).chan.draughts
    lost (.mark .fore) = ⟨none, some 1, some 1, some 1⟩ ∧ lost (.mark .aft) = ⟨some 1, none, some 1, some 1⟩ ∧
      lost (.mark .midPort) = ⟨some 1, some 1, none, some 1⟩ ∧
      lost (.mark .midStbd) = ⟨some 1, some 1, some 1, none⟩ ∧
      (chanEntry (bound (.tank 63 .primary)) 95).bind ChannelEntry.binding = some (.tank 63 .primary) ∧
      (tankRec (after (.channelStale 95) (bound (.tank 63 .primary))) 63).cls = .indefinite := by decide +kernel
theorem witness_PumpRequestsTaken :
    let s := ready .clear
    let asks (l : List Nat) (u : State) : State :=
      { u with pump := { u.pump with queue := l.map (fun k => ⟨k, .a, 0⟩) } }
    let full := asks ((List.range 16).map (· + 2)) s
    (∃ x ∈ (asks [0] s).pump.queue, x.tank = 0) ∧ (tankRec (serving 3 63 .opening s) 63).serving ≠ none ∧
      16 ≤ full.pump.queue.length ∧ (∀ x ∈ full.pump.queue, x.tank ≠ 0) ∧ inRun.tables.tank = none ∧
      s.tables.tank ≠ none ∧ s.tables.actuator ≠ none ∧ (pumpRec (serving 3 0 .opening s) 3).stage ≠ .idle ∧
      (∀ e ∈ (asks [2, 63] s).pump.queue, reaches s e.tank 3 = false) ∧ (pumpRec s 1).stage = .idle ∧
      reaches s 63 1 = true ∧ reaches s 2 1 = false ∧
      (considerPump 1 (asks [2, 63] s)).pump.queue.map ReqEntry.tank = [2] ∧
      (∀ e ∈ s.pump.queue, e.tank ≠ 0) ∧ (tankRec s 0).serving = none ∧
      (tankRec (serving 3 0 .opening s) 0).serving = some 3 ∧ (pumpRec (serving 3 0 .opening s) 3).stage = .opening ∧
      (pumpRec (serving 3 0 .closing s) 3).stage = .closing ∧ s.line.queue.length < 32 ∧
      stageCommand s 3 0 .starting = some (some ⟨4, 7⟩, .start) ∧
      stageCommand s 3 0 .closing = some (some ⟨4, 0⟩, .closeValve) := by decide +kernel

/-- Pump 3 serving tank 63 for context A's last step, RUNNING, in a stage. -/
def pumping (g : PumpStage) : State :=
  let s := setCtx .a ⟨.active, some plan, 2, [⟨.done, [true]⟩, ⟨.skipped, [false]⟩, ⟨.running, [false]⟩], false, 0, false⟩
    (serving 3 63 g (ready .warning))
  setPump 3 { pumpRec s 3 with job := some (.a, 2) } s

theorem witness_FeedbackTaken :
    (∀ g ∈ [PumpStage.opening, .starting, .running, .stopping, .closing],
      (tankRec (pumping g) 63).serving = some 3 ∧ (pumpRec (pumping g) 3).tank = some 63 ∧
        (pumpRec (pumping g) 3).placed = true ∧ (pumpRec (pumping g) 3).stage = g ∧
        (pumpRec (setPump 3 { pumpRec (pumping g) 3 with placed := false } (pumping g)) 3).placed = false) ∧
    (let s := pumping .opening;
      jobRuns s .a 2 = true ∧ 63 ∈ (currentTanks s).map PlanEntry.tank ∧ s.pump.supplyLow = false ∧
        { s.pump with supplyLow := true }.supplyLow = true ∧ (ctxRec s .a).steps[2]? = some ⟨.running, [false]⟩ ∧
        tankDone s 63 = false ∧ s.plan.exchange = none ∧ s.pump.queue.length < 16 ∧ s.fault.list.length < 32 ∧
        starterOutput s 3 = some ⟨4, 7⟩ ∧ valveOutput s 63 = some ⟨4, 2⟩ ∧ s.line.queue.length ≤ 30 ∧
        (tankRec s 0).serving = none ∧ (pumpRec s 0).tank = none ∧ tankOfOutput s ⟨4, 2⟩ = some 63 ∧
        tankOfOutput s ⟨4, 7⟩ = none ∧ pumpOfOutput s ⟨4, 7⟩ = some 3 ∧ tankOfOutput s ⟨4, 3⟩ = none ∧
        pumpOfOutput s ⟨4, 3⟩ = none) := by decide +kernel
theorem test_open_feedback_starts :
    (pumpRec (valveReport 63 .opened (pumping .opening)) 3).stage = .starting ∧
      (pumpRec (valveReport 63 .opened (setCtx .a (holding .active .running) (pumping .opening))) 3).stage =
        .closing := by decide +kernel
theorem test_trip_fails :
    let t := starterReport 3 .stopped (pumping .running)
    (pumpRec t 3).stage = .failed ∧ (tankRec t 63).serving = some 0 := by decide +kernel
theorem witness_StartsOnlyWhenAllowed :
    let s := passing (serving 1 0 .opening (planned .active .running))
    Safety.DesignationOk s ∧ Safety.PairingOk s ∧
      ends (.answerFrame 4 (feedback 1) []) s (fun t => t.line.queue == [.pump ⟨4, 5⟩ .start]) = true :=
  ⟨by decide +kernel, by decide +kernel⟩

/-- Pump 3 serving tank 63 for context A's first step, in a stage and at a counter. -/
def timed (g : PumpStage) (n : Nat) : State :=
  let s := passing (serving 3 63 g (planned .active .running))
  setPump 3 { pumpRec s 3 with counter := n } s

theorem witness_PumpTimeoutsTaken :
    (∀ g ∈ [PumpStage.opening, .closing, .starting, .stopping, .running], (timed g 29).start.inReset = none ∧
      (timed g 29).line.part = .afterSlot ∧ (timed g 29).close.taken = [] ∧ (pumpRec (timed g 29) 3).tank = some 63 ∧
      (pumpRec (timed g 29) 3).stage = g ∧ (pumpRec (timed g 29) 3).placed = true) ∧
    (let s := timed .opening 29;
      s.pump.supplyLow = false ∧ s.settings.valveTimeout ≤ bump 255 29 ∧ s.settings.pumpTimeout ≤ bump 255 29 ∧
        s.settings.flowWindow ≤ bump 255 29 ∧ s.fault.list.length < 32 ∧ s.pump.queue = [] ∧ jobRuns s .a 0 = true ∧
        (tankRec s 63).cls = .indefinite ∧ (tankRec (setTank 63 { tankRec s 63 with cls := .good } s) 63).cls = .good) := by
  decide +kernel

theorem witness_CycleCloses_pumps :
    (timed .opening 29).close.taken = [] ∧
      (closeWork .pumps (timed .opening 29)).fault.list.map FaultEntry.code = [.valveFault] ∧
      (pumpRec (closeWork .pumps (timed .opening 28)) 3).counter = 29 := by decide +kernel

/-- Requests waiting for a free engine. -/
def flagged (current : Bool) (q : Option StepReq) (o : Option OrderReq) : State :=
  { inRun with hull := { HullState.reset with currentFlag := current, stepFlag := q, orderFlag := o } }

theorem witness_EvaluationsBegin :
    State.reset.start.phase = .selfCheck ∧ (ready .clear).start.phase ≠ .selfCheck ∧
      inRun.start.inReset = none ∧ inRun.start.phase ≠ .selfCheck ∧
      (inFlight .current inRun).hull.engine ≠ none ∧ (flagged true none none).hull.engine = none ∧
      (flagged true none none).hull.currentFlag = true ∧
      (flagged false (some ⟨.a, 0, []⟩) none).hull.stepFlag = some ⟨.a, 0, []⟩ ∧
      (flagged false none (some ⟨1, []⟩)).hull.orderFlag = some ⟨1, []⟩ ∧
      tankFix (ready .clear) 63 = some (fixed 95 2) ∧ (fixed 95 2).primary ≠ none ∧
      ((EvalKind.step ⟨.a, 0, [⟨75, 1⟩, ⟨0, 7⟩]⟩).subs.map Substitution.item).Nodup ∧
      ((ready .clear).tables.tank ≠ none ∧ inRun.tables.tank = none ∧ inRun.tables.lever = none) ∧
      hullTables.lever.bind (fun l => l[11]?) = some 0 := by decide +kernel
theorem witness_ProjectionsComplete :
    let r := ctxRec projecting .a
    let first : PlanStep := ⟨[⟨0, .discharge, 2000⟩], none, .warning⟩
    projecting.start.inReset = none ∧ projecting.plan.designated = .a ∧ r.state = .active ∧ r.index = 0 ∧
      stepState r 0 = some .gated ∧ r.asked = true ∧ planStep r 0 = some first ∧
      r.steps[0]? = some ⟨.gated, [false]⟩ ∧ overallClass projecting = .warning ∧ (tankRec projecting 0).serving = none ∧
      projecting.pump.queue.length = 0 ∧ (∀ code < 10, tableValid projecting.tables code = true) := by decide +kernel
theorem witness_Projections_result : ∃ run, projecting.hull.engine = some run ∧ run.kind = .step ⟨.a, 0, [⟨0, 2000⟩]⟩ ∧
    (evaluate projecting.tables run.number run.snap).overall = .clear := ⟨_, rfl, rfl, by decide +kernel⟩
theorem witness_Projections_order :
    ∃ run, (inFlight (.order ⟨1, []⟩) inRun).hull.engine = some run ∧ run.kind = .order ⟨1, []⟩ := ⟨_, rfl, rfl⟩
theorem witness_Projections_done :
    let s := setCtx .a { ctxRec projecting .a with steps := [⟨.gated, [true]⟩, ⟨.skipped, [false]⟩, ⟨.waiting, [false]⟩] }
      { projecting with plan := { projecting.plan with autoPending := true } }
    ends .stepCompletion s (fun t => stepState (ctxRec t .a) 0 == some .done && (ctxRec t .a).index == 2 &&
      stepState (ctxRec t .a) 2 == some .gated && t.plan.autoEffective && !t.plan.autoPending) = true := by
  decide +kernel
theorem witness_CurrentCompletes :
    let s := { ready .indefinite with tables := hullTables }
    let ending (m : Nat) (u : State) := (after (.currentCompletion []) (inFlightOf m .current u))
    s.start.inReset = none ∧ (inFlight .current s).hull.engine ≠ none ∧ overallClass (ending 0 s) = .clear ∧
      overallClass (ending 1000000 s) = .over ∧ overallClass (ending 0 (ready .clear)) = .indefinite ∧
      s.start.phase = .run ∧ s.report.queue = [] ∧ Safety.DesignationOk (inFlight .current s) ∧
      (ending 1000000 s).report.queue.length ≤ 8 ∧ inReset.start.phase ≠ .run := by decide +kernel
theorem witness_StationsGraded :
    let snap : Snapshot := ⟨List.replicate 76 ⟨0, .good, 0, false⟩, EvalSettings.reset, true, 0, noMeasured⟩
    hullTables.base ≠ none ∧ hullTables.influence ≠ none ∧ hullTables.limits ≠ none ∧ hullTables.hydro ≠ none ∧
      (evaluate hullTables 1 snap).overall = .clear ∧ (evaluate hullTables 1 snap).stations.length = 2 ∧
      Tables.none.base = none ∧ (evaluate Tables.none 1 snap).overall = .indefinite := by decide +kernel
theorem witness_DisplacementDraughtsAndTrimGraded :
    readBase ((be 1 2 ++ be 4 2000000 ++ beInt 6 0) ++ List.replicate 192 0) =
      some ⟨2, 2000000, 0, List.replicate 24 0, List.replicate 24 0⟩ := by decide +kernel
/-- Stages over items of one mass and class each, with the hull tables above. -/
def stages (m : Nat) (c : TankClass) : EvalResult :=
  let b : BaseRecord := ⟨2, 100000, 0, List.replicate 24 0, List.replicate 24 0⟩
  let limits := List.replicate 24 (⟨100, 100, 100, 100⟩ : StationLimits)
  stagesResult b (List.replicate 76 (List.replicate 24 ⟨0, 0⟩)) ⟨limits, limits⟩
    [⟨1, 100, 0, 1000⟩, ⟨20000000, 20000, 0, 1000⟩] 0
    ⟨List.replicate 76 ⟨m, c, 0, false⟩, EvalSettings.reset, true, 0, noMeasured⟩

theorem witness_DisplacementDraughtsAndTrim_stages : 30000000 < 100000 + 76 * 1000000 ∧
    (stages 1000000 .good).delta = 30000000 ∧ (stages 0 .good).trim = EvalSettings.reset.trimMin ∧
    (stages 0 .good).trimCls = .clear ∧ (stages 0 .indefinite).trimCls = .indefinite ∧
    (stages 1000000 .good).draughtCls = .over ∧ (stages 0 .indefinite).draughtCls = .indefinite ∧
    (stages 0 .good).draughtCls = .clear := by decide +kernel
theorem witness_DisplacementDraughtsAndTrim_table :
    hydroPoints.Pairwise (fun p q => p.delta < q.delta) ∧ hydroAt hydroPoints 1799999 = (15200, -260, 218000) ∧
      hydroAt hydroPoints 1899999 = (16049, -339, 225999) ∧ hydroAt hydroPoints 1900000 = (16050, -340, 226000) := by
  decide +kernel
theorem witness_MassFromVolume : massOf 1000000 2000 = 2000000 ∧ massOf 1 500 = 1 ∧ massOf 1 499 = 0 ∧ 63 < 64 := by
  decide +kernel
theorem witness_ReportsPlaced : (∀ x ∈ fullQueue, x.key ≠ reportKey (loaderOf 6)) ∧ fullQueue.length = 24 ∧
    (∀ x ∈ fullQueue.drop 1, x.key.cls ≤ 2) ∧ (reportKey (loaderOf 6)).cls < 2 ∧
    fullQueue[0]?.map ReportEntry.key = some (reportKey (alertOf 0 .clear .over .over)) ∧
    (reportKey (alertOf 24 .clear .over .over)).cls = 2 ∧
    (∀ x ∈ fullQueue, x.key ≠ reportKey (alertOf 24 .clear .over .over)) := by decide +kernel
theorem witness_ReportsBuilt :
    let s := serving 1 0 .running (planned .active .running)
    let station (m : Nat) : StationRes := ⟨1, false, m, .over, 2, false, 0, .clear⟩
    let n : EvalResult := { noResult with stations := List.replicate 24 (station 9999), overall := .over }
    n.stations.length ≤ 24 ∧ (alertsOf noResult ⟨n, noMeasured, false, 0⟩).map AlertReport.subject =
        List.range 24 ++ [26] ∧ (alertsOf n ⟨n, noMeasured, false, 0⟩) = [] ∧
      windowMax StationRes.sfPm [station 5, station 7, station 7] ⟨0, 3⟩ = some (7, 1) ∧
      windowMax StationRes.sfPm [station 5, station 7] ⟨2, 1⟩ = none ∧ s.hull.condition ≠ none ∧
      inRun.hull.condition = none ∧ (conditionReport inRun).windows = [⟨none, none⟩] ∧
      (ctxRec s .a).plan = some plan ∧ plan.steps[0]?.map (fun x => x.entries.length) = some 1 ∧
      (ctxRec s .a).steps[0]? = some ⟨.running, [false]⟩ ∧ (ctxRec s .a).steps.length = plan.steps.length ∧
      (ctxRec s .b).plan = none ∧ (progressReport s .a).remaining = 9100 := by decide +kernel
theorem witness_FaultMessagesTaken : Safety.FaultListOk listed ∧ listed.fault.list.length = 32 ∧
    (∀ e ∈ listed.fault.list, e.code.priority = 9 ∧ e.active = true) ∧ FaultCode.supplyLow.priority < 9 ∧
    9 ≤ FaultCode.pourGap.priority ∧ FaultCode.gaugeDisagree.temporary = true ∧ FaultCode.pumpFailed.temporary = false ∧
    (let s := makeGone .gaugeDisagree 31 listed;
      Safety.FaultListOk s ∧ s.fault.list[31]?.map (fun e => (e.code, e.subject, e.active)) =
        some (.gaugeDisagree, 31, false)) := by decide +kernel
theorem witness_FaultMessages_displaced :
    let q : List ReportEntry := (List.range 24).map (fun k => ⟨.fault ⟨.gaugeDisagree, k, 0, true, 0⟩, true, 0⟩)
    (postQueue (loaderOf 6) q).displaced = some (.fault .gaugeDisagree 0) ∧
      (postQueue (loaderOf 6) (q.drop 1)).displaced = none ∧
      (makeGone .gaugeDisagree 31 { listed with report := ⟨fullQueue, 0, 0⟩ }).fault.list[31]?.map FaultEntry.owed =
        some (decide ((postQueue (.fault ⟨.gaugeDisagree, 31, 0, false, 0⟩) fullQueue).outcome = .dropped)) := by
  decide +kernel
theorem witness_TransmitterServed :
    let s := { inRun with report := ⟨fullQueue, 0, 0⟩, console := { ConsoleState.reset with places := fullPlaces } }
    s.start.inReset = none ∧ Safety.ReportQueueOk s ∧ s.console.tx = none ∧ s.console.resetDue = false ∧
      fullPlaces[0]? = some ⟨1, 18, .ready .accepted .none⟩ ∧ inRun.console.places = [] ∧
      fullQueue[0]?.map ReportEntry.eligible = some true ∧ inRun.report.queue = [] ∧ inRun.console.relay = [] ∧
      { inRun.console with relay := [⟨1, 0, []⟩] }.relay = ⟨1, 0, []⟩ :: [] ∧
      (after .transmitterFree inRun).console.tx ≠ none := by decide +kernel

/-- A FAULT report of GAUGE-DISAGREE 31 under transmission. -/
def sendingFault (active : Bool) (s : State) : State := { s with console := { s.console with
  tx := some ⟨.report (.fault ⟨.gaugeDisagree, 31, 0, active, 0⟩) 0, []⟩ } }

theorem witness_TransmitterServed_ends :
    let s := sendingFault true listed
    let g := sendingFault false (makeGone .gaugeDisagree 31 listed)
    let frame (f : TxFrame) : State := { inRun with console := { inRun.console with
      tx := some ⟨f, []⟩, resetPending := true } }
    s.start.inReset = none ∧ s.console.tx ≠ none ∧ Safety.FaultListOk s ∧
      listed.fault.list[31]?.map FaultEntry.active = some true ∧ g.start.inReset = none ∧ Safety.FaultListOk g ∧
      g.fault.list[31]?.map FaultEntry.active = some false ∧
      ends .transmissionComplete { frame (.report (.ident (identReport inRun)) 0) with
        start := { inRun.start with supplySeen := true } } (fun t => !t.start.supplySeen && t.console.tx == none) = true ∧
      ends .transmissionComplete (frame (.reply 255 19 .accepted .none)) (fun t => t.console.resetDue) = true ∧
      ends .transmissionComplete (frame (.sample ⟨1, 0, []⟩)) (fun t => !t.console.resetDue && t.console.tx == none) =
        true := by decide +kernel
theorem witness_SupplyAndResetsTaken : inRun.start.inReset = none ∧ inRun.start.vsupLow = false ∧
    (after .supplyLowBegin inRun).start.vsupLow = true ∧ inReset.start.inReset = some .supply ∧
    { ConsoleState.reset with resetDue := true }.resetDue = true := by decide +kernel
theorem witness_SelfCheckEnds : State.reset.start.inReset = none ∧ State.reset.start.phase = .selfCheck ∧
    Safety.FaultListOk State.reset ∧ State.reset.plan.recheckOwed = false ∧
    tableValid (gradeTables identityStore []) 0 = true ∧ tableValid (gradeTables identityStore []) 3 = false := by
  decide +kernel
end Sys2Proof.Tests
end

section
/-! Proof of the family of spec/02_tank_contents.md. -/

namespace Sys2Proof.Machine

open Sys2Proof

/-! ### Rounding up at half -/

/-- The rounded quotient lies within half a unit below and above the exact one, the upper bound excluded. -/
theorem roundHalfUp_bounds (a : Nat) {b : Nat} (hb : 0 < b) :
    2 * b * roundHalfUp a b ≤ 2 * a + b ∧ 2 * a + b < 2 * b * (roundHalfUp a b + 1) :=
  ⟨Nat.mul_div_le _ _, Nat.lt_mul_div_succ _ (by omega)⟩

/-- A rounded quotient does not pass a whole number that the exact one does not pass. -/
theorem roundHalfUp_le {a b n : Nat} (hb : 0 < b) (h : a ≤ b * n) : roundHalfUp a b ≤ n := by
  rw [roundHalfUp, ← Nat.lt_succ_iff, Nat.div_lt_iff_lt_mul (by omega)]
  calc 2 * a + b ≤ 2 * (b * n) + b := by omega
    _ < 2 * (b * n) + 2 * b := by omega
    _ = (n + 1) * (2 * b) := by ring

/-! ### The mass of a volume (R26) -/

/-- A mass is the volume times the density by 1,000, rounded up at half. -/
theorem massOf_bounds (v d : Nat) :
    2000 * massOf v d ≤ 2 * (v * d) + 1000 ∧ 2 * (v * d) + 1000 < 2000 * (massOf v d + 1) :=
  roundHalfUp_bounds (v * d) (b := 1000) (by decide)

/-- The largest volume at the largest density bounds every mass. -/
theorem massOf_le {v d : Nat} (hv : v ≤ 1000000) (hd : d ≤ 2000) : massOf v d ≤ 2000000 :=
  roundHalfUp_le (by decide) <| calc
    v * d ≤ 1000000 * 2000 := Nat.mul_le_mul hv hd
    _ = 1000 * 2000000 := by norm_num

/-- A conversion takes the mass from the volume that it writes, at the density that it read when it began (R26, R27). -/
theorem convertedRec_mass (s : State) (t : Nat) (f : TankFix) (c : Conversion) (r : TankRec) :
    (convertedRec s t f c r).mass = massOf (convertedRec s t f c r).volume c.density := rfl

/-- The record of a tank after a change of its density: the volume held stays, the mass is taken anew, and the rate is
absent (R19). -/
theorem tankRec_reconvertDensity {t : Nat} (d : Nat) (s : State) (ht : t < 64) :
    tankRec (reconvertDensity t d s) t =
      { tankRec s t with mass := massOf (tankRec s t).volume d, rate := none, rateBasis := none } := by
  simp [reconvertDensity, tankRec_setTank, ht]

/-- Settles O54: the rounding of R26 bounds the mass, and the records that a conversion and a change of density write
hold the mass of their own volume. -/
theorem massFromVolume : Obligations.MassFromVolume := by
  refine ⟨fun v d => ?rounding, fun s k f c r => convertedRec_mass s k f c r, fun s k d hk => ?density⟩
  case rounding =>
    obtain ⟨hle, hlt⟩ := massOf_bounds v d
    exact ⟨hle, hlt, massOf_le⟩
  case density =>
    rw [tankRec_reconvertDensity d s hk]
    exact ⟨rfl, rfl⟩

end Sys2Proof.Machine
end

section
/-! Proof of the family of spec/04_hull_condition_evaluation.md. -/

namespace Sys2Proof.Machine

open Sys2Proof

/-! ### The order of condition classes (R76) -/

/-- CLEAR is the least class. -/
@[simp] theorem CondClass.clear_higher (c : CondClass) : CondClass.clear.higher c = c := by
  cases c <;> rfl

theorem CondClass.higher_eq_or (a b : CondClass) : a.higher b = a ∨ a.higher b = b := by
  unfold CondClass.higher
  split
  · exact .inr rfl
  · exact .inl rfl

theorem CondClass.rank_higher (a b : CondClass) : (a.higher b).rank = max a.rank b.rank := by
  unfold CondClass.higher
  split <;> omega

theorem foldl_higher_mem (l : List CondClass) (a : CondClass) : l.foldl CondClass.higher a ∈ a :: l := by
  induction l generalizing a with
  | nil => simp
  | cons b l ih =>
    rw [List.foldl_cons]
    rcases List.mem_cons.mp (ih (a.higher b)) with h | h
    · rw [h]
      rcases CondClass.higher_eq_or a b with hab | hab <;> simp [hab]
    · exact .tail _ (.tail _ h)

theorem rank_le_foldl_higher (l : List CondClass) (a : CondClass) :
    ∀ c ∈ a :: l, c.rank ≤ (l.foldl CondClass.higher a).rank := by
  induction l generalizing a with
  | nil => simp
  | cons b l ih =>
    obtain ⟨hab, hl⟩ := List.forall_mem_cons.mp (ih (a.higher b))
    rw [CondClass.rank_higher] at hab
    rw [List.foldl_cons, List.forall_mem_cons, List.forall_mem_cons]
    exact ⟨(le_max_left _ _).trans hab, (le_max_right _ _).trans hab, hl⟩

/-- The highest class of a list is CLEAR or one of the list. -/
theorem highestClass_mem (l : List CondClass) : highestClass l ∈ CondClass.clear :: l := foldl_higher_mem l .clear

theorem rank_le_highestClass {l : List CondClass} {c : CondClass} (h : c ∈ l) : c.rank ≤ (highestClass l).rank :=
  rank_le_foldl_higher l .clear c (.tail _ h)

/-- The classes of a result: of its draught, of its trim, and two of each station (R76). -/
def classesOf (l : List StationRes) (draught trim : CondClass) : List CondClass :=
  draught :: trim :: l.flatMap (fun x => [x.sfCls, x.bmCls])

theorem mem_classesOf {l : List StationRes} {draught trim c : CondClass} :
    c ∈ classesOf l draught trim ↔ c = draught ∨ c = trim ∨ ∃ x ∈ l, c = x.sfCls ∨ c = x.bmCls := by
  simp [classesOf]

/-- The overall class is one of the classes of the result. -/
theorem overallOf_mem (l : List StationRes) (draught trim : CondClass) :
    overallOf l draught trim ∈ classesOf l draught trim := by
  rw [mem_classesOf, overallOf]
  have hrest := CondClass.higher_eq_or draught trim
  rcases CondClass.higher_eq_or (highestClass (l.map fun r => r.sfCls.higher r.bmCls)) (draught.higher trim)
    with h | h
  · rcases List.mem_cons.mp (highestClass_mem (l.map fun r => r.sfCls.higher r.bmCls)) with hc | hc
    · rw [hc, CondClass.clear_higher]
      exact hrest.imp_right .inl
    · obtain ⟨x, hx, heq⟩ := List.mem_map.mp hc
      rw [h, ← heq]
      exact .inr (.inr ⟨x, hx, CondClass.higher_eq_or _ _⟩)
  · rw [h]
    exact hrest.imp_right .inl

/-- No class of the result is above the overall class. -/
theorem rank_le_overallOf (l : List StationRes) (draught trim : CondClass) :
    ∀ c ∈ classesOf l draught trim, c.rank ≤ (overallOf l draught trim).rank := by
  intro c hc
  rw [overallOf, CondClass.rank_higher, CondClass.rank_higher]
  rcases mem_classesOf.mp hc with rfl | rfl | ⟨x, hx, hcx⟩
  · omega
  · omega
  · have hstation := rank_le_highestClass (List.mem_map_of_mem (f := fun r : StationRes => r.sfCls.higher r.bmCls) hx)
    rw [CondClass.rank_higher] at hstation
    rcases hcx with rfl | rfl <;> omega

/-! ### A stress: saturation and class (R67 to R69) -/

/-- An INDEFINITE item reaches a stress where its coefficient is not 0. -/
theorem reached_iff (items : List ItemSnap) (coef : Nat → Int) :
    reached items coef = true ↔
      ∃ (i : Nat) (it : ItemSnap), items[i]? = some it ∧ it.cls = .indefinite ∧ coef i ≠ 0 := by
  simp only [reached, List.any_eq_true, List.mem_iff_getElem?, List.getElem?_mapIdx, Option.map_eq_some_iff, id]
  constructor
  · rintro ⟨_, ⟨i, it, hit, rfl⟩, h⟩
    exact ⟨i, it, hit, by simpa using h⟩
  · rintro ⟨i, it, hit, hcls, hcoef⟩
    exact ⟨true, ⟨i, it, hit, by simp [hcls, hcoef]⟩, rfl⟩

theorem saturate_value (v : Int) : (saturate v).1 = Claims.within (-8388607) 8388607 v :=
  clampInt_eq _ _ _ (by decide)

theorem saturate_value_bounds (v : Int) : -8388607 ≤ (saturate v).1 ∧ (saturate v).1 ≤ 8388607 := by
  rw [saturate_value, Claims.within]
  omega

theorem saturate_mark (v : Int) : (saturate v).2 = true ↔ v < -8388607 ∨ 8388607 < v := decide_eq_true_iff

/-- The class of a stress, case by case: the first condition that holds gives it. -/
theorem stressClass_cases (v : Int) (sat indef : Bool) (limit warn : Nat) :
    let cls := stressClass v sat indef limit warn
    let exceeds := sat = true ∨ limit < v.natAbs
    (cls = .over ↔ exceeds) ∧ (cls = .indefinite ↔ ¬ exceeds ∧ indef = true) ∧
      (cls = .warning ↔ ¬ exceeds ∧ ¬ indef = true ∧ limit * warn < v.natAbs * 1000) := by
  unfold stressClass
  by_cases hsat : sat = true
  · simp [hsat]
  by_cases hlimit : limit < v.natAbs
  · simp [hlimit]
  by_cases hindef : indef = true
  · simp [hsat, hlimit, hindef]
  by_cases hwarn : limit * warn < v.natAbs * 1000 <;> simp [hsat, hlimit, hindef, hwarn]

/-- A stress of a station from its exact value: saturated, and graded against the limit for its sign. -/
theorem stress_graded (items : List ItemSnap) (coef : Nat → Int) (raw : Int) (warn pos neg : Nat) :
    let v := (saturate raw).1
    let sat := (saturate raw).2
    let limit := if 0 ≤ v then pos else neg
    let cls := stressClass v sat (reached items coef) limit warn
    let unsure := ∃ (i : Nat) (it : ItemSnap), items[i]? = some it ∧ it.cls = .indefinite ∧ coef i ≠ 0
    v = Claims.within (-8388607) 8388607 raw ∧ (sat = true ↔ raw < -8388607 ∨ 8388607 < raw) ∧
      (-8388607 ≤ v ∧ v ≤ 8388607) ∧
      (cls = .over ↔ sat = true ∨ limit < v.natAbs) ∧
      (cls = .indefinite ↔ ¬ (sat = true ∨ limit < v.natAbs) ∧ unsure) ∧
      (cls = .warning ↔ ¬ (sat = true ∨ limit < v.natAbs) ∧ ¬ unsure ∧ limit * warn < v.natAbs * 1000) := by
  intro v sat limit cls unsure
  have hcases := stressClass_cases v sat (reached items coef) limit warn
  rw [reached_iff] at hcases
  exact ⟨saturate_value raw, saturate_mark raw, saturate_value_bounds raw, hcases⟩

/-! ### The two results of an evaluation (R56, R78) -/

theorem evaluate_of_valid {tab : Tables} {snap : Snapshot} {b : BaseRecord} {inf : List (List Coef)} {lim : LimitSets}
    {hydro : List HydroPoint} (n : Nat) (hv : snap.tablesValid = true) (hb : tab.base = some b)
    (hi : tab.influence = some inf) (hl : tab.limits = some lim) (hh : tab.hydro = some hydro) :
    evaluate tab n snap = stagesResult b inf lim hydro n snap := by
  simp only [evaluate, hv, hb, hi, hl, hh]

theorem evaluate_of_invalid {tab : Tables} {snap : Snapshot} (n : Nat)
    (h : snap.tablesValid = false ∨ tab.base = none ∨ tab.influence = none ∨ tab.limits = none ∨ tab.hydro = none) :
    evaluate tab n snap = invalidResult tab.base n snap := by
  unfold evaluate
  split
  case h_1 hv hb hi hl hh => simp [hv, hb, hi, hl, hh] at h
  case h_2 => rfl

/-- Settles O52: each stress is a saturated value graded by its class, and the overall class is the highest of the
result's classes. -/
theorem stationsGraded : Obligations.StationsGraded := by
  refine ⟨fun b inf lim snap st => ⟨?shear, ?moment⟩, fun tab n snap => ⟨?valid, ?invalid⟩⟩
  case shear =>
    obtain ⟨hv, hsat, hbounds, hover, hindef, hwarn⟩ :=
      stress_graded snap.items (fun i => (coefOf inf i st).fS) (shearAt b inf snap.items st) snap.settings.warn
        (limitsAt lim snap.settings.limitSet st).sfPos (limitsAt lim snap.settings.limitSet st).sfNeg
    exact ⟨hv, hsat, hbounds, hover, hindef, hwarn, rfl⟩
  case moment =>
    obtain ⟨hv, hsat, hbounds, hover, hindef, hwarn⟩ :=
      stress_graded snap.items (fun i => (coefOf inf i st).fM) (momentAt b inf snap.items st) snap.settings.warn
        (limitsAt lim snap.settings.limitSet st).bmPos (limitsAt lim snap.settings.limitSet st).bmNeg
    exact ⟨hv, hsat, hbounds, hover, hindef, hwarn, rfl⟩
  case valid =>
    intro b inf lim hydro hv hb hi hl hh
    rw [evaluate_of_valid n hv hb hi hl hh]
    exact ⟨rfl, overallOf_mem _ _ _, rank_le_overallOf _ _ _⟩
  case invalid =>
    intro h
    rw [evaluate_of_invalid n h]
    exact ⟨rfl, rfl, rfl, rfl, rfl, rfl, rfl, rfl, rfl⟩

/-! ### The displacement (R71) -/

theorem itemSum_one (items : List ItemSnap) :
    itemSum items (fun _ _ => 1) = ((items.map ItemSnap.mass).sum : Nat) := by
  induction items with
  | nil => rfl
  | cons it items ih => simpa [itemSum] using ih

theorem rawDisplacement_eq (b : BaseRecord) (items : List ItemSnap) :
    rawDisplacement b items = b.delta0 + ((items.map ItemSnap.mass).sum : Nat) := by
  rw [rawDisplacement, itemSum_one]

/-- The displacement of a result is the sum, saturated. -/
theorem stagesResult_delta (b : BaseRecord) (inf : List (List Coef)) (lim : LimitSets) (hydro : List HydroPoint)
    (n : Nat) (snap : Snapshot) :
    (stagesResult b inf lim hydro n snap).delta = min (rawDisplacement b snap.items) 30000000 := by
  rw [min_comm]
  exact (min_def_lt (30000000 : Int) (rawDisplacement b snap.items)).symm

/-- No displacement that starts within the bound falls below the base displacement. -/
theorem delta0_le_stagesResult_delta (b : BaseRecord) (inf : List (List Coef)) (lim : LimitSets)
    (hydro : List HydroPoint) (n : Nat) (snap : Snapshot) (hb : b.delta0 ≤ 30000000) :
    b.delta0 ≤ (stagesResult b inf lim hydro n snap).delta := by
  rw [stagesResult_delta, rawDisplacement_eq]
  exact le_min (by omega) hb

/-- A valid base record holds a displacement within 1 to 2,000,000 dt (R52). -/
theorem readBase_delta0 {bytes : List Byte} {b : BaseRecord} (h : readBase bytes = some b) :
    1 ≤ b.delta0 ∧ b.delta0 ≤ 2000000 := by
  unfold readBase at h
  split at h
  · simp only [keepIf, Option.ite_none_right_eq_some, Option.some.injEq, Bool.and_eq_true, inRange,
      decide_eq_true_eq] at h
    obtain ⟨⟨⟨⟨⟨_, hdelta⟩, _⟩, _⟩, _⟩, rfl⟩ := h
    exact hdelta
  · cases h

/-! ### The hydrostatic table (R72) -/

theorem hydroAt_of_lt (p : HydroPoint) (rest : List HydroPoint) {d : Int} (h : d < p.delta) :
    hydroAt (p :: rest) d = (p.mean, p.lcb, p.mtc) := if_pos h

/-- The search passes every point before one that the displacement reaches. -/
theorem hydroWithin_append {before : List HydroPoint} {p : HydroPoint} {rest : List HydroPoint} {d : Int}
    (hrise : (before ++ p :: rest).Pairwise (fun p q => p.delta < q.delta)) (hp : p.delta ≤ d) :
    hydroWithin (before ++ p :: rest) d = hydroWithin (p :: rest) d := by
  induction before with
  | nil => rfl
  | cons x before ih =>
    obtain ⟨_, htail⟩ := List.pairwise_cons.mp hrise
    rw [← ih htail]
    cases before with
    | nil => exact if_neg (not_lt.mpr hp)
    | cons y before =>
      have hy : y.delta < p.delta := (List.pairwise_cons.mp htail).1 p (by simp)
      exact if_neg (not_lt.mpr (hy.le.trans hp))

/-- A displacement that reaches a point of the table is looked up from that point on. -/
theorem hydroAt_append {before : List HydroPoint} {p : HydroPoint} {rest : List HydroPoint} {d : Int}
    (hrise : (before ++ p :: rest).Pairwise (fun p q => p.delta < q.delta)) (hp : p.delta ≤ d) :
    hydroAt (before ++ p :: rest) d = hydroWithin (p :: rest) d := by
  rw [← hydroWithin_append hrise hp]
  cases before with
  | nil => exact if_neg (not_lt.mpr hp)
  | cons x before =>
    have hx : x.delta < p.delta := (List.pairwise_cons.mp hrise).1 p (by simp)
    exact if_neg (not_lt.mpr (hx.le.trans hp))

/-- A displacement lies beyond the range when the table is empty or ends below it. -/
theorem beyondRange_iff (table : List HydroPoint) (d : Int) :
    beyondRange table d = true ↔ table = [] ∨ ∃ p, table.getLast? = some p ∧ p.delta < d := by
  unfold beyondRange
  split
  case h_1 p hlast =>
    have hne : table ≠ [] := by
      rintro rfl
      cases hlast
    simp [hlast, hne]
  case h_2 hlast => simp [List.getLast?_eq_none_iff.mp hlast]

/-! ### The draught and trim classes (R74, R75) -/

theorem anyIndefinite_iff (items : List ItemSnap) :
    anyIndefinite items = true ↔ ∃ i ∈ items, i.cls = .indefinite := by
  simp [anyIndefinite]

/-- The draught class, case by case: the first condition that holds gives it. -/
theorem draughtClass_cases (forced indef : Bool) (fore aft mean most margin : Int) :
    let cls := draughtClass forced indef fore aft mean most margin
    let tooDeep := forced = true ∨ most < fore ∨ most < aft ∨ most < mean
    let near := most - margin ≤ fore ∨ most - margin ≤ aft ∨ most - margin ≤ mean
    (tooDeep → cls = .over) ∧ (¬ tooDeep → indef = true → cls = .indefinite) ∧
      (¬ tooDeep → ¬ indef = true → near → cls = .warning) ∧
      (¬ tooDeep → ¬ indef = true → ¬ near → cls = .clear) := by
  unfold draughtClass
  by_cases hforced : forced = true
  · simp [hforced]
  by_cases hdeep : most < fore ∨ most < aft ∨ most < mean
  · simp [hdeep]
  by_cases hindef : indef = true
  · simp [hforced, hdeep, hindef]
  by_cases hnear : most - margin ≤ fore ∨ most - margin ≤ aft ∨ most - margin ≤ mean <;>
    (simp only [hforced, hdeep, hindef, hnear]; simp)

/-- The trim class, case by case; no case gives WARNING. -/
theorem trimClass_cases (clamped indef : Bool) (trim lo hi : Int) :
    let cls := trimClass clamped indef trim lo hi
    let outside := clamped = true ∨ trim < lo ∨ hi < trim
    (outside → cls = .over) ∧ (¬ outside → indef = true → cls = .indefinite) ∧
      (¬ outside → ¬ indef = true → cls = .clear) ∧ cls ≠ .warning := by
  unfold trimClass
  by_cases houtside : clamped = true ∨ trim < lo ∨ hi < trim
  · simp [houtside]
  · cases indef <;> simp [houtside]

/-- The draught class is forced by a saturated displacement and by one beyond the hydrostatic range. -/
theorem draughtForced_iff (raw delta : Int) (hydro : List HydroPoint) :
    (decide (Config.maxDisplacement < raw) || beyondRange hydro delta) = true ↔
      30000000 < raw ∨ hydro = [] ∨ ∃ p, hydro.getLast? = some p ∧ p.delta < delta := by
  rw [Bool.or_eq_true, decide_eq_true_iff, beyondRange_iff, Config.maxDisplacement]

/-- The classes of a result are those of its own draughts and trim. -/
theorem stagesResult_classes (b : BaseRecord) (inf : List (List Coef)) (lim : LimitSets) (hydro : List HydroPoint)
    (n : Nat) (snap : Snapshot) :
    let r := stagesResult b inf lim hydro n snap
    let h := hydroAt hydro r.delta
    let raw := rawTrim r.delta h.2.1 h.2.2 (b.tm0 + itemSum snap.items (fun _ i => i.lever))
    r.draughtCls = draughtClass
        (decide (Config.maxDisplacement < rawDisplacement b snap.items) || beyondRange hydro r.delta)
        (anyIndefinite snap.items) r.fore r.aft r.mean snap.settings.maxDraught snap.settings.margin ∧
      r.trimCls = trimClass (decide (raw < -Config.maxTrim ∨ Config.maxTrim < raw)) (anyIndefinite snap.items) r.trim
        snap.settings.trimMin snap.settings.trimMax := ⟨rfl, rfl⟩

/-- Settles O53: the displacement saturates, the table is interpolated at it, and the draughts and the trim that follow
are graded by their classes. -/
theorem displacementDraughtsAndTrimGraded : Obligations.DisplacementDraughtsAndTrimGraded := by
  refine ⟨fun b inf lim hydro n snap => ?stages, fun table d hrise => ⟨?first, ?between, ?last⟩, ?base⟩
  case stages =>
    intro r sum h raw
    have hdelta : r.delta = min sum 30000000 := by
      rw [stagesResult_delta, rawDisplacement_eq]
    obtain ⟨hdraught, htrim⟩ := stagesResult_classes b inf lim hydro n snap
    have hdraughts := draughtClass_cases
      (decide (Config.maxDisplacement < rawDisplacement b snap.items) || beyondRange hydro r.delta)
      (anyIndefinite snap.items) r.fore r.aft r.mean snap.settings.maxDraught snap.settings.margin
    have htrims := trimClass_cases (decide (raw < -Config.maxTrim ∨ Config.maxTrim < raw)) (anyIndefinite snap.items)
      r.trim snap.settings.trimMin snap.settings.trimMax
    rw [← hdraught, draughtForced_iff, anyIndefinite_iff, rawDisplacement_eq] at hdraughts
    rw [← htrim, decide_eq_true_iff, or_assoc, anyIndefinite_iff] at htrims
    obtain ⟨hdeep, hshallow⟩ := hdraughts
    exact ⟨⟨hdelta, fun hsum => hdeep (.inl (.inl hsum)),
      delta0_le_stagesResult_delta b inf lim hydro n snap⟩, ⟨rfl, rfl, rfl, hdeep, hshallow⟩,
      clampInt_eq _ _ _ (by decide), htrims⟩
  case first =>
    rintro p rest rfl hlt
    exact hydroAt_of_lt p rest hlt
  case between =>
    rintro before p q after rfl hp hq
    rw [hydroAt_append hrise hp]
    exact if_pos hq
  case last =>
    rintro before p rfl hp
    exact hydroAt_append hrise hp
  case base =>
    intro bytes b hb
    obtain ⟨hlow, hhigh⟩ := readBase_delta0 hb
    exact ⟨hlow, by omega⟩

end Sys2Proof.Machine
end

section
/-! Proof of the family of spec/06_ballast_plans_and_step_order.md. -/

namespace Sys2Proof.Machine

open Sys2Proof Sys2Proof.Claims

/-! ### Plan orders that are taken (R106, R110, R173) -/

@[simp] theorem ctxOf_code (c : Ctx) : ctxOf c.code = some c := by
  cases c <;> rfl

theorem announced_iff (s : State) :
    announced s = true ↔ s.start.phase ≠ .selfCheck ∧ s.start.phase ≠ .enumerate := by
  unfold announced
  split <;> simp [*]

/-- A part that takes plan orders hands the order on (R106). -/
theorem planGate_taken {s : State} (h : TakesPlanOrders s) (take : State → State × Answer) :
    planGate take (heard s) = take (heard s) := by
  obtain ⟨-, hsetup, hcheck, henum, hexch⟩ := h
  have hannounced : announced (heard s) = true := (announced_iff _).mpr ⟨hcheck, henum⟩
  have hrun : (heard s).start.setup = false := hsetup
  have hfree : (heard s).plan.exchange = none := hexch
  simp [planGate, hrun, hannounced, hfree]

/-- A plan order that names a context is taken for that context (R106). -/
theorem withCtx_taken {s : State} (h : TakesPlanOrders s) (c : Ctx) (take : Ctx → State → State × Answer) :
    withCtx c.code take (heard s) = take c (heard s) := by
  rw [withCtx, planGate_taken h, ctxOf_code]

/-- A taken plan order that its owner answers at once: the work, the PROGRESS reports and the reply (R110, R173). -/
theorem planOrder_taken {s u : State} (h : TakesPlanOrders s) (tag : Nat) (name : OrderName)
    {take : State → State × Answer} {code : ReplyCode} {body : ReplyBody}
    (htake : take (heard s) = (u, .now code body)) :
    planOrder tag name take s = .next (answered tag name.code code body (withProgress (fun _ => u) (heard s))) := by
  obtain ⟨⟨⟨hreset, hplaces⟩, hwrite, hpending⟩, -⟩ := h
  have hwork : take (frameEnd s) = (u, .now code body) := htake
  rw [planOrder, takeOrder_taken _ _ _ _ hreset hplaces hwrite hpending, progressing, hwork]
  rfl

/-- Work that leaves the state as it is posts no PROGRESS report (R110). -/
@[simp] theorem withProgress_self (s : State) : withProgress (fun _ => s) s = s := by
  simp [withProgress]

/-- A taken plan order that its owner refuses changes nothing but the reply queue. -/
theorem planOrder_refused {s : State} (h : TakesPlanOrders s) (tag : Nat) (name : OrderName)
    {take : State → State × Answer} {code : ReplyCode} (htake : take (heard s) = refuse code (heard s)) :
    planOrder tag name take s = .next (refusedAs tag name.code code s) := by
  rw [planOrder_taken h tag name htake, withProgress_self]
  rfl

/-! ### Giving a step a state (R105) -/

theorem stepState_putStep (r : CtxRec) (i k : Nat) (st : StepState) :
    stepState (r.putStep i st) k = if i = k then (stepState r k).map (fun _ => st) else stepState r k := by
  simp only [stepState, CtxRec.putStep, List.getElem?_modify]
  split <;> simp [Function.comp_def]

/-- A step keeps its done marks in whatever state it is given. -/
@[simp] theorem putStep_marks (r : CtxRec) (i : Nat) (st : StepState) :
    (r.putStep i st).steps.map StepRec.done = r.steps.map StepRec.done := by
  apply List.ext_getElem?
  intro k
  simp only [CtxRec.putStep, List.getElem?_map, List.getElem?_modify]
  split <;> simp [Function.comp_def]

/-! ### The hold of the current step (R117) -/

/-- A context's record with its current step HELD where that step is RUNNING. -/
def heldRec (why : HoldReason) (r : CtxRec) : CtxRec :=
  if stepState r r.index = some .running then r.putStep r.index (.held why) else r

theorem stepState_heldRec (why : HoldReason) (r : CtxRec) (k : Nat) :
    stepState (heldRec why r) k =
      if k = r.index ∧ stepState r k = some .running then some (.held why) else stepState r k := by
  unfold heldRec
  by_cases hk : k = r.index
  · subst hk
    by_cases hrun : stepState r r.index = some .running <;> simp [hrun, stepState_putStep]
  · have hk' : ¬ r.index = k := fun h => hk h.symm
    split <;> simp [hk, hk', stepState_putStep]

@[simp] theorem heldRec_marks (why : HoldReason) (r : CtxRec) :
    (heldRec why r).steps.map StepRec.done = r.steps.map StepRec.done := by
  unfold heldRec
  split <;> simp

@[simp] theorem heldRec_index (why : HoldReason) (r : CtxRec) : (heldRec why r).index = r.index := by
  unfold heldRec
  split <;> rfl

@[simp] theorem heldRec_plan (why : HoldReason) (r : CtxRec) : (heldRec why r).plan = r.plan := by
  unfold heldRec
  split <;> rfl

@[simp] theorem heldRec_confirmCount (why : HoldReason) (r : CtxRec) : (heldRec why r).confirmCount = r.confirmCount := by
  unfold heldRec
  split <;> rfl

@[simp] theorem heldRec_resumable (why : HoldReason) (r : CtxRec) : (heldRec why r).resumable = r.resumable := by
  unfold heldRec
  split <;> rfl

theorem stepRunning_iff (s : State) :
    stepRunning s = true ↔ stepState (designatedRec s) (designatedRec s).index = some .running := by
  simp [stepRunning, currentState]

@[simp] theorem stopAll_plan (l : List PlanEntry) (s : State) : (stopAll l s).plan = s.plan := by
  obtain ⟨_, _, h⟩ := stopAll_eq s l
  rw [h]

@[simp] theorem ctxRec_stopAll (l : List PlanEntry) (s : State) (d : Ctx) : ctxRec (stopAll l s) d = ctxRec s d := by
  simp [ctxRec]

theorem holdStep_of_running {s : State} (why : HoldReason)
    (h : stepState (designatedRec s) (designatedRec s).index = some .running) :
    holdStep why s = stopAll (stepTanks (designatedRec s) (designatedRec s).index)
      (setCtx s.plan.designated ((designatedRec s).putStep (designatedRec s).index (.held why)) s) :=
  if_pos ((stepRunning_iff s).mpr h)

theorem holdStep_of_not_running {s : State} (why : HoldReason)
    (h : stepState (designatedRec s) (designatedRec s).index ≠ some .running) : holdStep why s = s :=
  if_neg (mt (stepRunning_iff s).mp h)

@[simp] theorem holdStep_designated (why : HoldReason) (s : State) :
    (holdStep why s).plan.designated = s.plan.designated := by
  unfold holdStep
  split <;> simp

theorem designatedRec_holdStep (why : HoldReason) (s : State) :
    designatedRec (holdStep why s) = heldRec why (designatedRec s) := by
  by_cases h : stepState (designatedRec s) (designatedRec s).index = some .running
  · rw [holdStep_of_running why h, heldRec, if_pos h]
    simp [designatedRec, ctxRec_setCtx]
  · rw [holdStep_of_not_running why h, heldRec, if_neg h]

theorem ctxRec_holdStep_of_ne (why : HoldReason) {s : State} {d : Ctx} (h : s.plan.designated ≠ d) :
    ctxRec (holdStep why s) d = ctxRec s d := by
  unfold holdStep
  split <;> simp [ctxRec_setCtx, h]

/-! ### PLAN-PAUSE (R121) -/

theorem ne_otherCtx (c : Ctx) : c ≠ otherCtx c := by
  cases c <;> simp [otherCtx]

/-- The record of the designated context after a pause. -/
theorem ctxRec_pauseDesignated (s : State) :
    ctxRec (pauseDesignated s) s.plan.designated =
      { heldRec .pause (designatedRec s) with state := .paused, asked := false } := by
  simp [pauseDesignated, ctxRec_setCtx, designatedRec_holdStep]

theorem ctxRec_pauseDesignated_of_ne {s : State} {d : Ctx} (h : s.plan.designated ≠ d) :
    ctxRec (pauseDesignated s) d = ctxRec s d := by
  simp [pauseDesignated, ctxRec_setCtx, h, ctxRec_holdStep_of_ne]

/-- A pause changes what the hold of the current step changes, and the context's record. -/
theorem pauseDesignated_eq (s : State) :
    ∃ p, pauseDesignated s = { s with plan := p, pump := (holdStep .pause s).pump, line := (holdStep .pause s).line } := by
  obtain ⟨p, u, l, h⟩ := holdStep_eq s .pause
  unfold pauseDesignated
  rw [setCtx_eq, h]
  exact ⟨_, rfl⟩

theorem onlyChanges_plan (s : State) (p : PlanState) : OnlyChanges [.plan] s { s with plan := p } := by
  intro b hb
  cases b <;> simp_all [Block.same]

theorem onlyChanges_plan_pump_line (s : State) (p : PlanState) (u : PumpState) (l : LineState) :
    OnlyChanges [.plan, .pump, .line] s { s with plan := p, pump := u, line := l } := by
  intro b hb
  cases b <;> simp_all [Block.same]

/-- A pause with no RUNNING step changes the plans alone. -/
theorem pauseDesignated_onlyChanges_plan {s : State}
    (h : stepState (designatedRec s) (designatedRec s).index ≠ some .running) :
    OnlyChanges [.plan] s (pauseDesignated s) := by
  obtain ⟨p, hp⟩ := pauseDesignated_eq s
  rw [hp, holdStep_of_not_running _ h]
  exact onlyChanges_plan s p

theorem pauseDesignated_onlyChanges (s : State) : OnlyChanges [.plan, .pump, .line] s (pauseDesignated s) := by
  obtain ⟨p, hp⟩ := pauseDesignated_eq s
  rw [hp]
  exact onlyChanges_plan_pump_line s p _ _

/-- A pause asks of the pumps and the line what the hold of the current step asks. -/
theorem pauseDesignated_pump_line (s : State) :
    (pauseDesignated s).pump = (holdStep .pause s).pump ∧ (pauseDesignated s).line = (holdStep .pause s).line := by
  simp [pauseDesignated]

/-! ### The steps of a context that is not ACTIVE wait (R112, R113, R118) -/

section Waiting

variable {s : State} (h : (designatedRec s).state ≠ .active)
include h

theorem judgeRequest_of_not_active : judgeRequest s = s := by
  have hdue : requestDue s = false := by
    unfold requestDue
    dsimp only
    split <;> simp [h]
  simp [judgeRequest, hdue]

theorem returnFromHold_of_not_active : returnFromHold s = s := by
  simp [returnFromHold, h]

theorem planStepCompletion_of_not_active (p : StepRecord) : planStepCompletion p s = s := by
  simp [planStepCompletion, takesCompletion, h]

end Waiting

/-- PLAN-PAUSE of a context, as the Plan Unit takes it. -/
theorem exec_planPause (tag : Nat) (c : Ctx) (s : State) :
    exec (.planPause tag (.fields c.code)) s = planOrder tag .planPause (withCtx c.code takePause) s := rfl

/-- Settles O28: the pause is the hold of R117 followed by a write of the context's record, and what takes a step on asks
for an ACTIVE context. -/
theorem planPauseTaken : Obligations.PlanPauseTaken := by
  refine fun s tag c => ⟨?taken, ?refused, ?waits⟩
  case taken =>
    rintro htakes rfl hactive
    have hpause : withCtx s.plan.designated.code takePause (heard s) = accept (pauseDesignated (heard s)) :=
      (withCtx_taken htakes _ takePause).trans (if_pos ⟨rfl, hactive⟩)
    have hrec : ctxRec (pauseDesignated (heard s)) s.plan.designated =
        { heldRec .pause (ctxRec s s.plan.designated) with state := .paused, asked := false } :=
      ctxRec_pauseDesignated (heard s)
    refine ⟨pauseDesignated (heard s), planOrder_taken htakes tag .planPause hpause, ?_⟩
    rw [hrec]
    refine ⟨rfl, rfl, stepState_heldRec .pause _, heldRec_marks .pause _, heldRec_index .pause _,
      heldRec_plan .pause _, heldRec_confirmCount .pause _, heldRec_resumable .pause _,
      ctxRec_pauseDesignated_of_ne (ne_otherCtx _), pauseDesignated_onlyChanges_plan (s := heard s),
      fun hrun => ⟨pauseDesignated_onlyChanges _, ?_⟩⟩
    have hasked := pauseDesignated_pump_line (heard s)
    rwa [holdStep_of_running (s := heard s) .pause hrun] at hasked
  case refused =>
    intro htakes hnot
    have hrefuse : withCtx c.code takePause (heard s) = refuse .notInState (heard s) :=
      (withCtx_taken htakes c takePause).trans (if_neg hnot)
    exact planOrder_refused htakes tag .planPause hrefuse
  case waits =>
    rintro rfl hpaused
    have hwait : (designatedRec s).state ≠ .active := by simp [designatedRec, hpaused]
    exact ⟨judgeRequest_of_not_active hwait, returnFromHold_of_not_active hwait,
      planStepCompletion_of_not_active hwait⟩

end Sys2Proof.Machine
end

section
/-! Proof of the family of spec/07_plan_contexts_and_exchange.md. -/

namespace Sys2Proof.Machine

open Sys2Proof Sys2Proof.Claims

/-! ### The refusals that plan orders share (R106, R131, R137, R193) -/

/-- In SETUP and before ANNOUNCE the gate of the plan orders answers NOT-IN-STATE. -/
theorem planGate_notInState {s : State}
    (h : s.start.setup = true ∨ s.start.phase = .selfCheck ∨ s.start.phase = .enumerate)
    (take : State → State × Answer) : planGate take s = refuse .notInState s := by
  obtain hsetup | hearly := h
  · simp [planGate, hsetup]
  · have hannounced : announced s = false := by
      rw [← Bool.not_eq_true, announced_iff]
      tauto
    simp [planGate, hannounced]

/-- From ANNOUNCE on and outside SETUP, an exchange in flight makes the gate answer BUSY. -/
theorem planGate_busy {s : State} (hsetup : s.start.setup = false) (hcheck : s.start.phase ≠ .selfCheck)
    (henum : s.start.phase ≠ .enumerate) (hexch : s.plan.exchange ≠ none) (take : State → State × Answer) :
    planGate take s = refuse .busy s := by
  have hannounced : announced s = true := (announced_iff s).mpr ⟨hcheck, henum⟩
  simp [planGate, hsetup, hannounced, Option.isSome_iff_ne_none.mpr hexch]

/-- In a SETUP-END write every plan order is answered BUSY (R193). -/
theorem planOrder_writing {s : State} (h : Hears s) (hwrite : s.start.write ≠ none) (tag : Nat) (name : OrderName)
    (take : State → State × Answer) : planOrder tag name take s = .next (refusedAs tag name.code .busy s) := by
  obtain ⟨hreset, hplaces⟩ := h
  rw [planOrder, takeOrder_busy _ _ _ _ hreset hplaces (.inl hwrite)]
  rfl

/-- A plan order that its gate or its owner refuses changes nothing but the reply queue, also where the part takes no plan
orders. -/
theorem planOrder_refused_of_takesOrders {s : State} (h : TakesOrders s) (tag : Nat) (name : OrderName)
    {take : State → State × Answer} {code : ReplyCode} (htake : take (heard s) = refuse code (heard s)) :
    planOrder tag name take s = .next (refusedAs tag name.code code s) := by
  obtain ⟨⟨hreset, hplaces⟩, hwrite, hpending⟩ := h
  have hwork : take (frameEnd s) = refuse code (heard s) := htake
  rw [planOrder, takeOrder_taken _ _ _ _ hreset hplaces hwrite hpending, progressing, hwork]
  exact congrArg (fun t => Host.Outcome.next (answered tag name.code code .none t)) (withProgress_self (heard s))

theorem planOrder_notInState {s : State} (h : TakesOrders s)
    (hstate : s.start.setup = true ∨ s.start.phase = .selfCheck ∨ s.start.phase = .enumerate)
    (tag : Nat) (name : OrderName) (take : State → State × Answer) :
    planOrder tag name (planGate take) s = .next (refusedAs tag name.code .notInState s) :=
  planOrder_refused_of_takesOrders h tag name (planGate_notInState (s := heard s) hstate take)

theorem planOrder_exchanging {s : State} (h : TakesOrders s) (hsetup : s.start.setup = false)
    (hcheck : s.start.phase ≠ .selfCheck) (henum : s.start.phase ≠ .enumerate) (hexch : s.plan.exchange ≠ none)
    (tag : Nat) (name : OrderName) (take : State → State × Answer) :
    planOrder tag name (planGate take) s = .next (refusedAs tag name.code .busy s) :=
  planOrder_refused_of_takesOrders h tag name (planGate_busy (s := heard s) hsetup hcheck henum hexch take)

/-! ### Work that R110 does not watch -/

/-- Work that leaves both contexts' records posts no PROGRESS report (R110). -/
theorem withProgress_of_ctxRec_eq {s u : State} (h : ∀ c, ctxRec u c = ctxRec s c) :
    withProgress (fun _ => u) s = u := by
  have hface : ∀ c, ctxFace s c = ctxFace u c := fun c => by simp [ctxFace, h]
  simp [withProgress, hface]

/-- A plan order that is accepted and leaves both contexts' records places its reply and posts no report. -/
theorem planOrder_accepted_of_ctxRec_eq {s u : State} (h : TakesPlanOrders s) (tag : Nat) (name : OrderName)
    {take : State → State × Answer} (htake : take (heard s) = accept u)
    (hrec : ∀ c, ctxRec u c = ctxRec (heard s) c) :
    planOrder tag name (planGate take) s = .next (answered tag name.code .accepted .none u) := by
  rw [planOrder_taken h tag name ((planGate_taken h take).trans htake), withProgress_of_ctxRec_eq hrec]

/-- The two parts of AUTO-EXCHANGE are in no context's record. -/
theorem ctxRec_setAuto (s : State) (pending effective : Bool) (c : Ctx) :
    ctxRec { s with plan := { s.plan with autoPending := pending, autoEffective := effective } } c = ctxRec s c := by
  cases c <;> rfl

/-! ### AUTO-EXCHANGE (R137) -/

/-- What ON does once the gate has let it through. -/
def takeAutoOn (s : State) : State × Answer :=
  accept (if s.plan.autoEffective then s else { s with plan := { s.plan with autoPending := true } })

/-- What OFF, or an argument that is neither, does once the gate has let it through. -/
def takeAutoOff (n : Nat) (s : State) : State × Answer :=
  if n = 0 then accept { s with plan := { s.plan with autoPending := false, autoEffective := false } }
  else refuse .outOfRange s

theorem exec_autoExchangeOn (tag : Nat) (s : State) :
    exec (.autoExchangeOn tag (.fields ())) s = planOrder tag .autoExchange (planGate takeAutoOn) s := rfl

theorem exec_autoExchangeOff (tag n : Nat) (s : State) :
    exec (.autoExchangeOff tag (.fields n)) s = planOrder tag .autoExchange (planGate (takeAutoOff n)) s := rfl

/-- Settles O34: each refusal is the gate's or the argument's own, and what ON and OFF write is in no context's record,
so that the reply is all that is placed. -/
theorem autoExchangeTaken : Obligations.AutoExchangeTaken := by
  intro s tag hhears
  simp only [exec_autoExchangeOn, exec_autoExchangeOff]
  refine ⟨?writing, ?notInState, ?exchanging, ?outOfRange, ?on, ?onEffective, ?off⟩
  case writing =>
    exact fun hwrite => ⟨planOrder_writing hhears hwrite tag .autoExchange _,
      fun _ => planOrder_writing hhears hwrite tag .autoExchange _⟩
  case notInState =>
    exact fun htakes hstate => ⟨planOrder_notInState htakes hstate tag .autoExchange takeAutoOn,
      fun n => planOrder_notInState htakes hstate tag .autoExchange (takeAutoOff n)⟩
  case exchanging =>
    exact fun htakes hsetup hcheck henum hexch =>
      ⟨planOrder_exchanging htakes hsetup hcheck henum hexch tag .autoExchange takeAutoOn,
        fun n => planOrder_exchanging htakes hsetup hcheck henum hexch tag .autoExchange (takeAutoOff n)⟩
  case outOfRange =>
    intro htakes n hoff _
    have hrefuse : takeAutoOff n (heard s) = refuse .outOfRange (heard s) := if_neg hoff
    exact planOrder_refused htakes tag .autoExchange ((planGate_taken htakes _).trans hrefuse)
  case on =>
    intro htakes hclear
    have hset : takeAutoOn (heard s) = accept { heard s with plan := { s.plan with autoPending := true } } :=
      congrArg accept (if_neg (Bool.eq_false_iff.mp hclear))
    exact planOrder_accepted_of_ctxRec_eq htakes tag .autoExchange hset
      (ctxRec_setAuto (heard s) true s.plan.autoEffective)
  case onEffective =>
    intro htakes heffective
    have hkept : takeAutoOn (heard s) = accept (heard s) := congrArg accept (if_pos heffective)
    exact planOrder_accepted_of_ctxRec_eq htakes tag .autoExchange hkept fun _ => rfl
  case off =>
    intro htakes
    have hboth : takeAutoOff 0 (heard s) =
        accept { heard s with plan := { s.plan with autoPending := false, autoEffective := false } } := if_pos rfl
    exact planOrder_accepted_of_ctxRec_eq htakes tag .autoExchange hboth (ctxRec_setAuto (heard s) false false)

end Sys2Proof.Machine
end

section
/-! Proof of the family of spec/08_port_reports.md. -/

namespace Sys2Proof.Machine

open Sys2Proof

/-! ### The first element that meets a predicate -/

section FirstMatch

variable {α : Type} {p : α → Bool} {before : List α} {e : α}

theorem find?_append_cons (hbefore : ∀ x ∈ before, p x = false) (he : p e = true) (after : List α) :
    (before ++ e :: after).find? p = some e :=
  List.find?_eq_some_iff_append.mpr ⟨he, before, after, rfl, fun x hx => by simp [hbefore x hx]⟩

theorem removeFirst_append_cons (hbefore : ∀ x ∈ before, p x = false) (he : p e = true) (after : List α) :
    removeFirst p (before ++ e :: after) = before ++ after := by
  induction before with
  | nil => exact if_pos he
  | cons x before ih =>
    obtain ⟨hx, hrest⟩ := List.forall_mem_cons.mp hbefore
    simp [removeFirst, hx, ih hrest]

theorem replaceFirst_append_cons (hbefore : ∀ x ∈ before, p x = false) (he : p e = true) (f : α → α)
    (after : List α) : replaceFirst p f (before ++ e :: after) = before ++ f e :: after := by
  induction before with
  | nil => exact if_pos he
  | cons x before ih =>
    obtain ⟨hx, hrest⟩ := List.forall_mem_cons.mp hbefore
    simp [replaceFirst, hx, ih hrest]

end FirstMatch

/-! ### The lowest priority in the queue -/

theorem foldl_cls_le_iff (q : List ReportEntry) (a n : Nat) :
    q.foldl (fun m e => max m e.key.cls) a ≤ n ↔ a ≤ n ∧ ∀ x ∈ q, x.key.cls ≤ n := by
  induction q generalizing a with
  | nil => simp
  | cons e q ih => simp [ih, and_assoc]

/-- The lowest priority is the least bound of the class numbers in the queue. -/
theorem lowestClass_le_iff (q : List ReportEntry) (n : Nat) : lowestClass q ≤ n ↔ ∀ x ∈ q, x.key.cls ≤ n := by
  simp [lowestClass, foldl_cls_le_iff]

/-- An entry whose class number none in the queue passes is of the lowest priority. -/
theorem lowestClass_eq_of_forall_le {q : List ReportEntry} {e : ReportEntry} (he : e ∈ q)
    (hmost : ∀ x ∈ q, x.key.cls ≤ e.key.cls) : lowestClass q = e.key.cls :=
  le_antisymm ((lowestClass_le_iff q _).mpr hmost) ((lowestClass_le_iff q _).mp le_rfl e he)

/-! ### The withdrawal of an ALERT (R149) -/

theorem withdrawn_iff (m : Report) :
    withdrawn m = true ↔ ∃ a : AlertReport, m = .alert a ∧ a.old = a.new ∧ a.new = a.peak := by
  cases m <;> simp [withdrawn]

/-! ### What a post does with the queue (R145) -/

section Post

variable {r : Report} {before after q : List ReportEntry} {e : ReportEntry}

theorem find?_key_eq_none (hnew : ∀ x ∈ q, x.key ≠ reportKey r) :
    q.find? (fun x => x.key == reportKey r) = none :=
  List.find?_eq_none.mpr fun x hx => by simpa using hnew x hx

/-- A merge into an ALERT that leaves nothing of the change takes the entry out. -/
theorem postQueue_withdrawing (he : e.key = reportKey r) (hbefore : ∀ x ∈ before, x.key ≠ reportKey r)
    (hgone : withdrawn (mergedReport e.report r) = true) :
    postQueue r (before ++ e :: after) = ⟨before ++ after, .merged, none⟩ := by
  have hother : ∀ x ∈ before, (x.key == reportKey r) = false := fun x hx => beq_false_of_ne (hbefore x hx)
  have hkey : (e.key == reportKey r) = true := beq_iff_eq.mpr he
  simp [postQueue, find?_append_cons hother hkey, removeFirst_append_cons hother hkey, hgone]

/-- Any other merge keeps the entry's place. -/
theorem postQueue_merging (he : e.key = reportKey r) (hbefore : ∀ x ∈ before, x.key ≠ reportKey r)
    (hkept : withdrawn (mergedReport e.report r) = false) :
    postQueue r (before ++ e :: after) = ⟨before ++ freshEntry (mergedReport e.report r) :: after, .merged, none⟩ := by
  have hother : ∀ x ∈ before, (x.key == reportKey r) = false := fun x hx => beq_false_of_ne (hbefore x hx)
  have hkey : (e.key == reportKey r) = true := beq_iff_eq.mpr he
  simp [postQueue, find?_append_cons hother hkey, replaceFirst_append_cons hother hkey, hkept]

theorem postQueue_joining (hnew : ∀ x ∈ q, x.key ≠ reportKey r) (hroom : q.length < 24) :
    postQueue r q = ⟨q ++ [freshEntry r], .queued, none⟩ := by
  simp [postQueue, find?_key_eq_none hnew, Config.reportQueue, hroom]

/-- In a full queue the first entry of the highest class number gives way to a post of a lower one. -/
theorem postQueue_displacing (hnew : ∀ x ∈ before ++ e :: after, x.key ≠ reportKey r)
    (hfull : 24 ≤ (before ++ e :: after).length) (hbefore : ∀ x ∈ before, x.key.cls < e.key.cls)
    (hafter : ∀ x ∈ after, x.key.cls ≤ e.key.cls) (hlower : (reportKey r).cls < e.key.cls) :
    postQueue r (before ++ e :: after) = ⟨before ++ after ++ [freshEntry r], .queued, some e.key⟩ := by
  have hlow : lowestClass (before ++ e :: after) = e.key.cls :=
    lowestClass_eq_of_forall_le (by simp) <| by
      simpa [or_imp, forall_and] using ⟨fun x hx => (hbefore x hx).le, hafter⟩
  have hother : ∀ x ∈ before, (x.key.cls == e.key.cls) = false := fun x hx => beq_false_of_ne (hbefore x hx).ne
  have hsame : (e.key.cls == e.key.cls) = true := beq_self_eq_true _
  have hnoRoom : ¬ (before ++ e :: after).length < Config.reportQueue := not_lt.mpr hfull
  simp only [postQueue, find?_key_eq_none hnew, if_neg hnoRoom, hlow, if_pos hlower,
    removeFirst_append_cons hother hsame, find?_append_cons hother hsame, Option.map_some]

theorem postQueue_dropping (hnew : ∀ x ∈ q, x.key ≠ reportKey r) (hfull : 24 ≤ q.length)
    (hmost : ∀ x ∈ q, x.key.cls ≤ (reportKey r).cls) : postQueue r q = ⟨q, .dropped, none⟩ := by
  have hnoRoom : ¬ q.length < Config.reportQueue := not_lt.mpr hfull
  have hnotLower : ¬ (reportKey r).cls < lowestClass q := not_lt.mpr ((lowestClass_le_iff q _).mpr hmost)
  simp only [postQueue, find?_key_eq_none hnew, if_neg hnoRoom, if_neg hnotLower]

end Post

/-- Settles O55: the entry found by the post's key decides between a merge and a place in the queue, and the lowest
priority of a full queue between the two ways to place the post. -/
theorem reportsPlaced : Obligations.ReportsPlaced := by
  intro r q
  refine ⟨?merged, postQueue_joining, ?displaced, postQueue_dropping⟩
  case merged =>
    rintro before e after rfl he hbefore merged gone
    have hmerged : merged = mergedReport e.report r := rfl
    have hgone : gone ↔ withdrawn (mergedReport e.report r) = true := hmerged ▸ (withdrawn_iff merged).symm
    exact ⟨fun h => postQueue_withdrawing he hbefore (hgone.mp h),
      fun h => postQueue_merging he hbefore (Bool.eq_false_iff.mpr (mt hgone.mpr h))⟩
  case displaced =>
    rintro before e after hnew hfull rfl hbefore hafter hlower
    exact postQueue_displacing hnew hfull hbefore hafter hlower

end Sys2Proof.Machine
end
